-- ==== Sys2Proof/Word.lean ====
section
/-! DEFINITION. The words of the host bus, the bytes of the payload, and the levels of a pin. -/

namespace Sys2Proof

/-- One word of the host bus: every bus operation is 32 bits wide (20_memory.md R51). -/
abbrev Word := BitVec 32

/-- One entry of `TXBUF` or `RXBUF` (10_state.md R26). -/
abbrev Byte := BitVec 8

/-- One level for each of the 16 pins, bit `p` the level of pin `p` (20_memory.md R53). -/
abbrev PinWord := BitVec 16

/-- A byte address on the host bus, 12 bits (10_state.md R30). -/
abbrev Addr := BitVec 12

end Sys2Proof
end

