-- ==== Sys2Proof/Config.lean ====
section
/-! DEFINITION. What an implementation fixes (the parameters of 00_scope.md R2) and the one source of free
values: every item the spec leaves unspecified takes a value of `Config.free`, which has no body. -/

namespace Sys2Proof.Config

/-- `N_PINS` (R2). -/
def nPins : Nat := 16

/-- `SNAP_BITS` (R2). -/
def snapBits : Nat := 16

/-- `MAX_BYTES`: the largest payload of one transfer (R2). -/
def maxBytes : Nat := 63

/-- `MAX_SAMPLES`: the capacity of the sample buffer (R2). -/
def maxSamples : Nat := 1024

/-- `TICK_BITS`: the width of every tick counter (R2); no counter wraps (42_transfer_sequencer.md R158). -/
def tickBits : Nat := 48

/-- Entries of `TXBUF` and of `RXBUF` (10_state.md R26). -/
def bufEntries : Nat := 64

/-- Entries of `PAT` (10_state.md R26). -/
def patEntries : Nat := 512

/-- The two parameters R2 leaves OPEN, which a model takes as an argument. They stand in `State.params`, no rule
writes them, and a statement about every state is a statement about every value of them (assumption log 1). -/
structure Params where
  /-- `F_SYS`, the system clock frequency in Hz. -/
  fSys : BitVec 32
  /-- `POLL_TICKS`, the ticks between two polls of the digitizer status. -/
  pollTicks : BitVec 32
deriving DecidableEq, Repr

/-- `F_SYS - 1`, not evaluable: R2 gives only `1 <= F_SYS < 2^32`. -/
opaque fSysLessOne : Fin 4294967295

/-- `POLL_TICKS - 1`, not evaluable: R2 gives only `1 <= POLL_TICKS < 2^32`. -/
opaque pollTicksLessOne : Fin 4294967295

/-- The parameters of the machine that comes out of power-on: any values R2 admits. -/
def params : Params where
  fSys := BitVec.ofNat 32 (fSysLessOne.val + 1)
  pollTicks := BitVec.ofNat 32 (pollTicksLessOne.val + 1)

/-- What the spec leaves without a value (93_implementation_defined.md U1 to U4) and what the environment supplies
when no input is listed. `field unit index` is a field of the generator or of the digitizer. -/
inductive Item where
  | ext
  | fault
  | dioOut
  | dioOe
  | prev
  | rxLen
  | txByte (j : Nat)
  | rxByte (j : Nat)
  | patBit (k : Nat)
  | smpWord (k : Nat)
  | field (unit index : Nat)
deriving DecidableEq, Repr

/-- The free value of an item, `width` bits wide, at one value of the state's counter `fresh` (or, for `TXBUF`,
`born`). It has no body: a statement about it holds whatever it is (assumption log 2). -/
opaque free (item : Item) (stamp width : Nat) : BitVec width

/-- A free value of one bit. -/
def freeBit (item : Item) (stamp : Nat) : Bool := (free item stamp 1).getLsbD 0

end Sys2Proof.Config
end

