-- ==== Sys2Proof/Syntax.lean ====
section
/-! DEFINITION. The four commands of spec/opcode_table.json. A command carries no operand in its word: operands are
read from registers in the tick the command is written (30_encoding.md R80, R87). -/

namespace Sys2Proof

/-- The commands a host writes to `CMD` (30_encoding.md R81 to R84). -/
inductive Instr where
  /-- `CONSTRUCT`, R81 and R101: validate the pins and open the device. -/
  | construct
  /-- `CONFIGURE`, R82 and R120: divider, channels, trigger selector. -/
  | configure
  /-- `TRANSFER`, R83 and R150: one synchronous SPI exchange. -/
  | transfer
  /-- `CLOSE`, R84 and R105: release the pins and the instance. -/
  | close
deriving DecidableEq, Repr

end Sys2Proof
end

