-- ==== Sys2Proof/WellFormed.lean ====
section
/-! DEFINITION. The checks that a command word, a command and a machine's parameters must pass. -/

namespace Sys2Proof

/-- A word that is one of the four commands: `ZERO = 0` and `OPC` in 1..4 (30_encoding.md R85, R86). -/
def wellFormedWord (w : Word) : Bool :=
  w.toNat / 256 == 0 && 1 ≤ w.toNat % 256 && w.toNat % 256 ≤ 4

/-- Every command is well formed: it has no operand that could be ill formed (30_encoding.md R80). -/
def Instr.wellFormed : Instr → Bool
  | .construct => true
  | .configure => true
  | .transfer => true
  | .close => true

/-- `1 <= F_SYS` and `1 <= POLL_TICKS` (00_scope.md R2); the upper bounds are the fields' widths. -/
def Config.Params.wellFormed (p : Config.Params) : Bool :=
  1 ≤ p.fSys.toNat && 1 ≤ p.pollTicks.toNat

end Sys2Proof
end

