-- ==== Sys2Proof/Decode.lean ====
section
/-! DEFINITION. The decoder of command words, total and rejecting by name, and the encoder (30_encoding.md section
2 and 3). A rejected word is an illegal command: the write of it is refused (R86). -/

namespace Sys2Proof

/-- Why a word written to `CMD` is no command (30_encoding.md R86). -/
inductive DecodeError where
  /-- `ZERO != 0`. -/
  | zeroFieldNotZero
  /-- `OPC = 0` or `OPC = 5..255`. -/
  | illegalOpcode
deriving DecidableEq, Repr

/-- The opcode of each command (30_encoding.md R81 to R84). -/
def Instr.opcode : Instr → Byte
  | .construct => 1
  | .configure => 2
  | .transfer => 3
  | .close => 4

/-- `CMD[31:8]`, which must be 0 (30_encoding.md R80). -/
def zeroField (w : Word) : BitVec 24 := w.extractLsb' 8 24

/-- `CMD[7:0]`, the opcode (30_encoding.md R80). -/
def opcField (w : Word) : Byte := w.extractLsb' 0 8

/-- The command an opcode names (30_encoding.md R81 to R84, R86). -/
def decodeOpcode (opc : Byte) : Except DecodeError Instr :=
  if opc = 1 then .ok .construct
  else if opc = 2 then .ok .configure
  else if opc = 3 then .ok .transfer
  else if opc = 4 then .ok .close
  else .error .illegalOpcode

/-- The command a word written to `CMD` is (30_encoding.md R80, R85, R86). -/
def decode (w : Word) : Except DecodeError Instr :=
  if zeroField w = 0 then decodeOpcode (opcField w) else .error .zeroFieldNotZero

/-- The word of a command: `ZERO = 0` above the opcode (30_encoding.md R80). -/
def encode (i : Instr) : Word := (0 : BitVec 24) ++ i.opcode

/-- The command the decoder reads from the bus word whose low `nbits` bits are `w`: a command is the one 32-bit
data word of a host write (30_encoding.md R80), so there is no byte order to lay out. -/
def decodeTableWord (nbits w : Nat) : Option Instr :=
  match decode (BitVec.ofNat 32 (w % 2 ^ nbits)) with
  | .ok i => some i
  | .error _ => none

end Sys2Proof
end

