-- ==== Sys2Proof/Machine/State.lean ====
section
/-! DEFINITION. The state of the SPI engine as plain data, and its value after reset (10_state.md). Every counter of
ticks, steps, bits or samples is a natural number: none of them wraps (42_transfer_sequencer.md R158). -/

namespace Sys2Proof.Machine

open Sys2Proof

/-- `LC`, the lifecycle state (10_state.md R11); its values 0 to 4 stand in this order. -/
inductive Lifecycle where
  | closed
  | opened
  | ready
  | failed
  | desync
deriving DecidableEq, Repr

/-- `SEQ`, the state of the transfer sequencer (10_state.md R12); its values 0 to 3 stand in this order. -/
inductive SeqState where
  | idle
  | armed
  | running
  | done
deriving DecidableEq, Repr

/-- `ERR[2:0]`, the code of the most recent command (10_state.md R21, 60_exceptions.md R270); values 0 to 4. -/
inductive ErrCode where
  | none
  | configuration
  | capacity
  | timeout
  | driver
deriving DecidableEq, Repr

/-- `PINS`, the `PinAssignment`: four fields of 8 bits, so that an index out of range can be written (R13). -/
structure PinAssignment where
  mosi : BitVec 8
  miso : BitVec 8
  sclk : BitVec 8
  ss : BitVec 8
deriving DecidableEq, Repr

/-- `MODE`, the `ProtocolMode`; its other bits read 0 and ignore writes (R14). -/
structure ProtocolMode where
  cpol : Bool
  cpha : Bool
deriving DecidableEq, Repr

/-- `XFER`, the request without its bytes; its other bits read 0 and ignore writes (R16). -/
structure XferRegister where
  byteCount : BitVec 7
  lsbTx : Bool
  lsbRx : Bool
  errClk : BitVec 10
deriving DecidableEq, Repr

/-- A sparse buffer: index and value pairs with rising indices. An index that is not listed holds no value the spec
fixes; its readers take a free value there (assumption log 3). A `Memory 8` is a list of `Host.Cell`. -/
abbrev Memory (width : Nat) := List (Nat × BitVec width)

/-- `CH[c].DTYPE` (R24). -/
inductive ChannelType where
  | pulse
  | custom
deriving DecidableEq, Repr

/-- One output channel of the generator: its registers, then its run-time state (R24). -/
structure Channel where
  en : Bool
  pin : BitVec 4
  idle : Bool
  dtype : ChannelType
  div : Nat
  divInit : Nat
  lowCnt : Nat
  highCnt : Nat
  initLvl : Bool
  patLen : Nat
  /-- `DCNT`: ticks left in the current step. -/
  dcnt : Nat
  /-- `PCNT`: steps left at the current level. -/
  pcnt : Nat
  /-- `LVL`: the current level. -/
  lvl : Bool
  /-- `IDX`: the index of the pattern bit being output. -/
  idx : Nat
deriving DecidableEq, Repr

/-- The waveform generator: three channels, the run length, the run counter, the running flag (R24, R25). -/
structure Generator where
  ss : Channel
  sclk : Channel
  mosi : Channel
  runLen : Nat
  rt : Nat
  running : Bool
deriving DecidableEq, Repr

/-- `DIG.ST` (R28); its values 0 to 3 stand in this order. -/
inductive DigState where
  | ready
  | armed
  | running
  | done
deriving DecidableEq, Repr

/-- `DIG.TRIGSRC` (R27). -/
inductive TriggerSource where
  | none
  | outStart
deriving DecidableEq, Repr

/-- The digitizer: configuration registers (R27), then run-time state (R28). -/
structure Digitizer where
  /-- `ACQMODE`: true is `SINGLE_SHOT`. -/
  singleShot : Bool
  sdiv : Nat
  fmt : Nat
  trigSrc : TriggerSource
  lowMask : PinWord
  highMask : PinWord
  riseMask : PinWord
  fallMask : PinWord
  trigPos : Nat
  bufSize : Nat
  st : DigState
  trigEn : Bool
  scnt : Nat
  widx : Nat
  /-- `DIG.PREV`: the pin levels of the previous tick. -/
  prev : PinWord
deriving DecidableEq, Repr

/-- The sequencer latches `X.*` (R29). -/
structure Latches where
  n : Nat
  e : Nat
  nBits : Nat
  nSamp : Nat
  lsbRx : Bool
  deadline : Nat
deriving DecidableEq, Repr

/-- What the environment and the reset line put on the input ports in one tick (R10, R30, R31). -/
structure EnvTick where
  rst : Bool
  /-- `dio_in`, the level `ext[p]` of every pin. -/
  ext : PinWord
  /-- `fault_in`: bit 0 driver failure, bit 1 completion withheld. -/
  fault : BitVec 2
deriving DecidableEq, Repr

/-- One primitive line of a host script: what the host does from now on (30_encoding.md R89). `poll` repeats its
read every tick until `(data & mask) = value`. -/
inductive HostLine where
  | nop
  | rd (a : Addr)
  | wr (a : Addr) (d : Word)
  | poll (a : Addr) (mask value : Word)
deriving DecidableEq, Repr

/-- The operation on the host bus in one tick (20_memory.md R51). -/
inductive BusOp where
  | nop
  | rd (a : Addr)
  | wr (a : Addr) (d : Word)
deriving DecidableEq, Repr

/-- The whole machine. -/
structure State where
  /-- The open parameters (00_scope.md R2, assumption log 1). -/
  params : Config.Params
  lc : Lifecycle
  seq : SeqState
  pins : PinAssignment
  mode : ProtocolMode
  speed : Word
  xfer : XferRegister
  txbuf : Memory 8
  err : ErrCode
  rxValid : Bool
  rej : Bool
  rxLen : BitVec 7
  rxbuf : Memory 8
  tSysclk : Word
  tDiv : Word
  tBitdiv : Word
  gen : Generator
  pat : Memory 1
  dig : Digitizer
  smp : Memory 16
  latch : Latches
  tcnt : Nat
  /-- MODEL'S OWN: the unspecified condition of 60_exceptions.md R278 holds (assumption log 4). -/
  ioFree : Bool
  /-- MODEL'S OWN: `RXLEN` and `RXBUF` are unspecified (10_state.md R22, assumption log 5). -/
  rxFree : Bool
  /-- MODEL'S OWN: the counter that free values are taken at; every tick advances it (assumption log 2). -/
  fresh : Nat
  /-- MODEL'S OWN: `fresh` at the last reset, which the unwritten bytes of `TXBUF` are taken at. -/
  born : Nat
  /-- MODEL'S OWN: the lines the host has still to carry out (assumption log 6). -/
  host : List HostLine
  /-- MODEL'S OWN: the inputs of the coming ticks (assumption log 7). -/
  env : List EnvTick
  /-- MODEL'S OWN: what `h_rdata` carried in the tick just done, if that tick was a read (assumption log 8). -/
  rdata : Option Word
deriving DecidableEq, Repr

/-- Why a step can stop with a fault: never. The spec gives every state and every input a next state, so this
type has no constructor (93_implementation_defined.md; U1 is taken as its free value). Safe. -/
inductive Fault where
deriving DecidableEq, Repr

/-- Why a step can be refused. -/
inductive Refusal where
  /-- Raised by an arm of `exec` whose command has no meaning yet. No arm raises it. Safe. -/
  | notModelled (mnemonic : String)
deriving DecidableEq, Repr

/-- A channel after reset: every field 0, not enabled (10_state.md R32). -/
def Channel.reset : Channel where
  en := false
  pin := 0
  idle := false
  dtype := .pulse
  div := 0
  divInit := 0
  lowCnt := 0
  highCnt := 0
  initLvl := false
  patLen := 0
  dcnt := 0
  pcnt := 0
  lvl := false
  idx := 0

/-- The generator after reset and after `resetDigitalIO` (10_state.md R32, R33). -/
def Generator.reset : Generator where
  ss := Channel.reset
  sclk := Channel.reset
  mosi := Channel.reset
  runLen := 0
  rt := 0
  running := false

/-- The digitizer after reset and after `resetDigitalIO`, which leave `DIG.PREV` out (10_state.md R32, R33). -/
def Digitizer.resetKeeping (prev : PinWord) : Digitizer where
  singleShot := false
  sdiv := 0
  fmt := 0
  trigSrc := .none
  lowMask := 0
  highMask := 0
  riseMask := 0
  fallMask := 0
  trigPos := 0
  bufSize := 0
  st := .ready
  trigEn := false
  scnt := 0
  widx := 0
  prev := prev

/-- The latches after reset and after CLOSE (10_state.md R32, 40_lifecycle_commands.md R105). -/
def Latches.reset : Latches where
  n := 0
  e := 0
  nBits := 0
  nSamp := 0
  lsbRx := false
  deadline := 0

/-- The state after reset (10_state.md R32, 70_reset_and_hazards.md R310, R311). The buffers hold no fixed value and
`DIG.PREV` is free in the first tick. -/
def State.reset : State where
  params := Config.params
  lc := .closed
  seq := .idle
  pins := { mosi := 0, miso := 0, sclk := 0, ss := 0 }
  mode := { cpol := false, cpha := false }
  speed := 0
  xfer := { byteCount := 0, lsbTx := false, lsbRx := false, errClk := 0 }
  txbuf := []
  err := .none
  rxValid := false
  rej := false
  rxLen := 0
  rxbuf := []
  tSysclk := 0
  tDiv := 0
  tBitdiv := 0
  gen := Generator.reset
  pat := []
  dig := Digitizer.resetKeeping (Config.free .prev 0 16)
  smp := []
  latch := Latches.reset
  tcnt := 0
  ioFree := false
  rxFree := false
  fresh := 0
  born := 0
  host := []
  env := []
  rdata := none

end Sys2Proof.Machine
end

