-- ==== Sys2Proof/Machine/Ops.lean ====
section
/-! DEFINITION. The shared operations: the sparse buffers, the input ports, the free values of the unspecified
condition, `resetDigitalIO`, and the error entry (60_exceptions.md R275) with what ends it. -/

namespace Sys2Proof.Machine

open Sys2Proof

/-! ### Buffers (10_state.md R26) -/

/-- The value listed at index `i`, if there is one. -/
def Memory.read? {width : Nat} : Memory width → Nat → Option (BitVec width)
  | [], _ => none
  | (k, v) :: m, i => if k = i then some v else Memory.read? m i

/-- Put `v` at index `i`, keeping the indices rising. -/
def Memory.insert {width : Nat} : Memory width → Nat → BitVec width → Memory width
  | [], i, v => [(i, v)]
  | (k, u) :: m, i, v =>
    if i < k then (i, v) :: (k, u) :: m
    else if i = k then (i, v) :: m
    else (k, u) :: Memory.insert m i v

/-- `MemWrite` of 00_scope.md 5.3 to a buffer of `size` entries; an index past the buffer has no entry to write. -/
def Memory.write {width : Nat} (size : Nat) (m : Memory width) (i : Nat) (v : BitVec width) : Memory width :=
  if i < size then Memory.insert m i v else m

/-- A buffer whose entries `start, start + 1, ...` hold the values given and whose other entries hold no value. -/
def Memory.ofList {width : Nat} (start : Nat) : List (BitVec width) → Memory width
  | [] => []
  | v :: vs => (start, v) :: Memory.ofList (start + 1) vs

/-- The indices rise strictly from `low` on and stay below `size`. -/
def Memory.wfFrom {width : Nat} (size low : Nat) : Memory width → Bool
  | [] => true
  | (k, _) :: m => decide (low ≤ k) && decide (k < size) && Memory.wfFrom size (k + 1) m

/-- The canonical form of a buffer of `size` entries. An unlisted index reads as no value, which no entry is. -/
def Memory.wf {width : Nat} (size : Nat) (m : Memory width) : Bool := Memory.wfFrom size 0 m

/-! ### Input ports (10_state.md R30, R31) -/

/-- `rst` in this tick; past the listed inputs it is 0 (assumption log 7). -/
def State.rst (s : State) : Bool :=
  match s.env with
  | [] => false
  | e :: _ => e.rst

/-- `dio_in` in this tick; past the listed inputs it is free (assumption log 7). -/
def State.ext (s : State) : PinWord :=
  match s.env with
  | [] => Config.free .ext s.fresh 16
  | e :: _ => e.ext

/-- `fault_in` in this tick; past the listed inputs it is free (assumption log 7). -/
def State.fault (s : State) : BitVec 2 :=
  match s.env with
  | [] => Config.free .fault s.fresh 2
  | e :: _ => e.fault

/-- `fault_in[0]`: a driver call fails in this tick (R31). -/
def State.driverFault (s : State) : Bool := s.fault.getLsbD 0

/-- `fault_in[1]`: completion is withheld in this tick (R31). -/
def State.withheld (s : State) : Bool := s.fault.getLsbD 1

/-! ### The unspecified condition (60_exceptions.md R278) -/

/-- A channel any of whose fields has any value of its width (R24, R278). -/
def Channel.free (unit stamp : Nat) : Channel where
  en := Config.freeBit (.field unit 0) stamp
  pin := Config.free (.field unit 1) stamp 4
  idle := Config.freeBit (.field unit 2) stamp
  dtype := if Config.freeBit (.field unit 3) stamp then .custom else .pulse
  div := (Config.free (.field unit 4) stamp 48).toNat
  divInit := (Config.free (.field unit 5) stamp 48).toNat
  lowCnt := (Config.free (.field unit 6) stamp 16).toNat
  highCnt := (Config.free (.field unit 7) stamp 16).toNat
  initLvl := Config.freeBit (.field unit 8) stamp
  patLen := (Config.free (.field unit 9) stamp 10).toNat
  dcnt := (Config.free (.field unit 10) stamp 48).toNat
  pcnt := (Config.free (.field unit 11) stamp 16).toNat
  lvl := Config.freeBit (.field unit 12) stamp
  idx := (Config.free (.field unit 13) stamp 10).toNat

/-- A generator any of whose fields has any value of its width (R278). -/
def Generator.free (stamp : Nat) : Generator where
  ss := Channel.free 0 stamp
  sclk := Channel.free 1 stamp
  mosi := Channel.free 2 stamp
  runLen := (Config.free (.field 3 0) stamp 48).toNat
  rt := (Config.free (.field 3 1) stamp 48).toNat
  running := Config.freeBit (.field 3 2) stamp

/-- The digitizer state of a 2-bit code (10_state.md R28). -/
def DigState.ofCode (c : BitVec 2) : DigState :=
  if c = 0 then .ready else if c = 1 then .armed else if c = 2 then .running else .done

/-- A digitizer any of whose fields has any value of its width (R278). -/
def Digitizer.free (stamp : Nat) : Digitizer where
  singleShot := Config.freeBit (.field 4 0) stamp
  sdiv := (Config.free (.field 4 1) stamp 48).toNat
  fmt := (Config.free (.field 4 2) stamp 5).toNat
  trigSrc := if Config.freeBit (.field 4 3) stamp then .outStart else .none
  lowMask := Config.free (.field 4 4) stamp 16
  highMask := Config.free (.field 4 5) stamp 16
  riseMask := Config.free (.field 4 6) stamp 16
  fallMask := Config.free (.field 4 7) stamp 16
  trigPos := (Config.free (.field 4 8) stamp 11).toNat
  bufSize := (Config.free (.field 4 9) stamp 11).toNat
  st := DigState.ofCode (Config.free (.field 4 10) stamp 2)
  trigEn := Config.freeBit (.field 4 11) stamp
  scnt := (Config.free (.field 4 12) stamp 48).toNat
  widx := (Config.free (.field 4 13) stamp 11).toNat
  prev := Config.free (.field 4 14) stamp 16

/-- Enter the unspecified condition of the generator, the digitizer, `PAT`, `SMP` and the output pins
(41_configure.md R125 case (c), 93_implementation_defined.md U4). The result is no part of it: an error that loses the
result says so itself (`State.raise`). -/
def State.indeterminate (s : State) : State := { s with ioFree := true }

/-- Give every item that is unspecified in this state a fresh free value: in the condition of R278 the generator,
the digitizer, `PAT` and `SMP`; while the result is unspecified (10_state.md R22) `RXLEN` and `RXBUF`. -/
def State.unspecify (s : State) : State :=
  { s with
    gen := if s.ioFree then Generator.free s.fresh else s.gen
    dig := if s.ioFree then Digitizer.free s.fresh else s.dig
    pat := if s.ioFree then [] else s.pat
    smp := if s.ioFree then [] else s.smp
    rxLen := if s.rxFree then Config.free .rxLen s.fresh 7 else s.rxLen
    rxbuf := if s.rxFree then [] else s.rxbuf }

/-! ### Reset of the digital I/O, errors, acceptance -/

/-- `resetDigitalIO` (10_state.md R33): the generator and the digitizer at their reset values, `DIG.PREV` apart. It
ends the unspecified condition of the generator, the digitizer and the pins (60_exceptions.md R279). -/
def State.resetDigitalIO (s : State) : State :=
  { s with gen := Generator.reset, dig := Digitizer.resetKeeping s.dig.prev, ioFree := false }

/-- The events that raise an error (60_exceptions.md R270). -/
inductive ErrorEvent where
  /-- ConfigurationError at CONSTRUCT. -/
  | construct
  /-- ConfigurationError at CONFIGURE. -/
  | configure
  /-- CapacityError at TRANSFER. -/
  | capacity
  /-- TimeoutError at a poll. -/
  | timeout
  /-- DriverError, at TRANSFER or in flight. -/
  | driver
deriving DecidableEq, Repr

/-- The code an error records (R270). -/
def ErrorEvent.code : ErrorEvent → ErrCode
  | .construct => .configuration
  | .configure => .configuration
  | .capacity => .capacity
  | .timeout => .timeout
  | .driver => .driver

/-- `LC` after an error (R275), from `LC` before it. -/
def ErrorEvent.lifecycle (e : ErrorEvent) (lc : Lifecycle) : Lifecycle :=
  match e with
  | .construct => lc
  | .configure => .failed
  | .capacity => lc
  | .timeout => .desync
  | .driver => .desync

/-- TimeoutError and DriverError leave hardware state indeterminate and withdraw the result (R275, R278). -/
def ErrorEvent.losesSync : ErrorEvent → Bool
  | .construct => false
  | .configure => false
  | .capacity => false
  | .timeout => true
  | .driver => true

/-- `raise E`, the error entry (R275): the code, `LC`, `SEQ <- IDLE`; after TimeoutError and DriverError also
`RXVALID <- 0` and the unspecified condition. Nothing is saved and control goes nowhere. -/
def State.raise (e : ErrorEvent) (s : State) : State :=
  { s with
    err := e.code
    lc := e.lifecycle s.lc
    seq := .idle
    rxValid := if e.losesSync then false else s.rxValid
    ioFree := e.losesSync || s.ioFree
    rxFree := e.losesSync || s.rxFree }

/-- What an accepted command that succeeds does to `ERR`; it is the only return from an error (R280). -/
def State.succeed (s : State) : State := { s with err := .none }

/-- A host write that is refused (60_exceptions.md R274). -/
def State.refuse (s : State) : State := { s with rej := true }

/-- A host write that is accepted clears `STATUS.REJ` (20_memory.md R59, 30_encoding.md R85). -/
def State.accept (s : State) : State := { s with rej := false }

end Sys2Proof.Machine
end

