-- ==== Sys2Proof/Machine/Operands.lean ====
section
/-! DEFINITION. The operand forms: the fields of the operand registers as bus words (10_state.md R13 to R17), the
operands a command reads (30_encoding.md R87), and the numbers derived from them. -/

namespace Sys2Proof.Machine

open Sys2Proof

/-! ### Registers as bus words -/

/-- A bit as a number of `width` bits. -/
def bitVal (width : Nat) (b : Bool) : BitVec width := (BitVec.ofBool b).setWidth width

/-- `PINS` on the bus (R13). -/
def PinAssignment.toWord (p : PinAssignment) : Word := p.ss ++ p.sclk ++ p.miso ++ p.mosi

/-- What a write of `d` stores in `PINS` (R13). -/
def PinAssignment.ofWord (d : Word) : PinAssignment where
  mosi := d.extractLsb' 0 8
  miso := d.extractLsb' 8 8
  sclk := d.extractLsb' 16 8
  ss := d.extractLsb' 24 8

/-- `MODE` on the bus: bit 0 `CPHA`, bit 1 `CPOL`, the others 0 (R14). -/
def ProtocolMode.toWord (m : ProtocolMode) : Word := bitVal 32 m.cpol <<< 1 ||| bitVal 32 m.cpha

/-- What a write of `d` stores in `MODE` (R14). -/
def ProtocolMode.ofWord (d : Word) : ProtocolMode where
  cpol := d.getLsbD 1
  cpha := d.getLsbD 0

/-- `XFER` on the bus: `BYTECOUNT` 6:0, `LSBTX` 8, `LSBRX` 9, `ERRCLK` 25:16, the others 0 (R16). -/
def XferRegister.toWord (x : XferRegister) : Word :=
  x.errClk.setWidth 32 <<< 16 ||| bitVal 32 x.lsbRx <<< 9 ||| bitVal 32 x.lsbTx <<< 8 ||| x.byteCount.setWidth 32

/-- What a write of `d` stores in `XFER` (R16). -/
def XferRegister.ofWord (d : Word) : XferRegister where
  byteCount := d.extractLsb' 0 7
  lsbTx := d.getLsbD 8
  lsbRx := d.getLsbD 9
  errClk := d.extractLsb' 16 10

/-! ### Buffer entries, with the free value of an entry that holds none -/

/-- `TXBUF[j]`. An entry not written since reset has one free value until its first write
(93_implementation_defined.md U1). -/
def State.txByte (s : State) (j : Nat) : Byte :=
  (s.txbuf.read? j).getD (Config.free (.txByte j) s.born 8)

/-- `RXBUF[j]`. An entry that is unspecified has any value in each tick (U3). -/
def State.rxByte (s : State) (j : Nat) : Byte :=
  (s.rxbuf.read? j).getD (Config.free (.rxByte j) s.fresh 8)

/-- `PAT[k]`. An entry outside a transfer's pattern has any value in each tick (U2). -/
def State.patBit (s : State) (k : Nat) : Bool :=
  ((s.pat.read? k).getD (Config.free (.patBit k) s.fresh 1)).getLsbD 0

/-- `SMP[i]`. A sample outside a transfer's capture has any value in each tick (U2). -/
def State.sample (s : State) (i : Nat) : PinWord :=
  (s.smp.read? i).getD (Config.free (.smpWord i) s.fresh 16)

/-! ### Operands of CONSTRUCT -/

/-- Every index is in 0..15 (40_lifecycle_commands.md R101). -/
def PinAssignment.inRange (p : PinAssignment) : Bool :=
  p.mosi.toNat ≤ 15 && p.miso.toNat ≤ 15 && p.sclk.toNat ≤ 15 && p.ss.toNat ≤ 15

/-- The four indices differ (R101, R102). -/
def PinAssignment.distinct (p : PinAssignment) : Bool :=
  p.mosi != p.miso && p.mosi != p.sclk && p.mosi != p.ss &&
    p.miso != p.sclk && p.miso != p.ss && p.sclk != p.ss

/-- The invariant of a `PinAssignment` (10_state.md R13). -/
def PinAssignment.legal (p : PinAssignment) : Bool := p.inRange && p.distinct

/-! ### Operands and numbers of CONFIGURE -/

/-- `D = F_SYS div (2 * SPEED)` in exact integers (41_configure.md R123); 0 when `SPEED = 0`, which R125 rejects. -/
def dividerOf (fSys speed : Word) : Nat := fSys.toNat / (2 * speed.toNat)

/-- `D` of this machine's `F_SYS` and `SPEED`. -/
def State.divider (s : State) : Nat := dividerOf s.params.fSys s.speed

/-- `CPHA` as a number. -/
def ProtocolMode.phase (m : ProtocolMode) : Nat := m.cpha.toNat

/-- The 16-bit mask of one pin, `1 << p` (41_configure.md R130). -/
def pinMask (p : Nat) : PinWord := 1#16 <<< p

/-! ### Operands and numbers of TRANSFER -/

/-- `n = XFER.BYTECOUNT`. -/
def State.reqBytes (s : State) : Nat := s.xfer.byteCount.toNat

/-- `e = XFER.ERRCLK`. -/
def State.reqErrClk (s : State) : Nat := s.xfer.errClk.toNat

/-- `N = 8*n + e` (42_transfer_sequencer.md R153). -/
def bitCount (n e : Nat) : Nat := 8 * n + e

/-- `S = 2*N + 2` (R154). -/
def sampleCount (N : Nat) : Nat := 2 * N + 2

/-- `R = 2*N*D + ((49*D + 49) div 50)` (R155). -/
def runLength (N D : Nat) : Nat := 2 * N * D + (49 * D + 49) / 50

/-- `X.DEADLINE = R + 4*D` (R167). -/
def deadlineOf (R D : Nat) : Nat := R + 4 * D

/-- `D = T_DIV`, the ticks of a half bit period (R23). -/
def State.halfBit (s : State) : Nat := s.tDiv.toNat

/-- `N` of the request in `XFER`. -/
def State.reqBits (s : State) : Nat := bitCount s.reqBytes s.reqErrClk

/-- `S` of the request in `XFER`. -/
def State.reqSamples (s : State) : Nat := sampleCount s.reqBits

/-- The request violates the capacity invariant (R151). -/
def State.overCapacity (s : State) : Bool :=
  s.reqBytes == 0 || decide (Config.maxBytes < s.reqBytes) || decide (Config.maxSamples ≤ s.reqSamples)

/-- `sum over i = 0..7 of f(i) << pos(i)`. -/
def packBits (f : Nat → Bool) (pos : Nat → Nat) : Byte :=
  (List.range 8).foldl (fun acc i => acc + bitVal 8 (f i) <<< pos i) 0

/-- `rev8(v)[i] = v[7-i]` (00_scope.md 5.2). -/
def rev8 (v : Byte) : Byte := packBits (fun i => v.getLsbD (7 - i)) (fun i => i)

/-- `W[j]`, the programmed word of payload byte `j` (42_transfer_sequencer.md R160). -/
def State.programmedWord (s : State) (j : Nat) : Byte :=
  if s.xfer.lsbTx then s.txByte j else rev8 (s.txByte j)

/-- The bit that goes to `PAT[k]`, `k < N`: bit `k mod 8` of `W[k div 8]`, and 0 from `8*n` on (R161). -/
def State.patternBit (s : State) (k : Nat) : Bool :=
  if k < 8 * s.reqBytes then (s.programmedWord (k / 8)).getLsbD (k % 8) else false

end Sys2Proof.Machine
end

