-- ==== Sys2Proof/Machine/Flags.lean ====
section
/-! DEFINITION. The status flags: the encodings of `LC`, `SEQ`, `ERR` and `DIG.ST`, the derived flag `BUSY`, and the
word `STATUS` (10_state.md R11, R12, R20, R21, R28). -/

namespace Sys2Proof.Machine

open Sys2Proof

/-- The encoding of `LC` (R11). -/
def Lifecycle.code : Lifecycle → BitVec 3
  | .closed => 0
  | .opened => 1
  | .ready => 2
  | .failed => 3
  | .desync => 4

/-- The encoding of `SEQ` (R12). -/
def SeqState.code : SeqState → BitVec 2
  | .idle => 0
  | .armed => 1
  | .running => 2
  | .done => 3

/-- The error codes (60_exceptions.md R270). -/
def ErrCode.code : ErrCode → BitVec 3
  | .none => 0
  | .configuration => 1
  | .capacity => 2
  | .timeout => 3
  | .driver => 4

/-- The encoding of `DIG.ST` (R28). -/
def DigState.code : DigState → BitVec 2
  | .ready => 0
  | .armed => 1
  | .running => 2
  | .done => 3

/-- `BUSY` is 1 exactly when `SEQ != IDLE` (R20). -/
def State.busy (s : State) : Bool := s.seq != .idle

/-- The word `STATUS` (R20): `LC` 2:0, `SEQ` 5:4, `BUSY` 8, `RXVALID` 9, `REJ` 10, `DIG` 13:12, `GENRUN` 14. -/
def State.status (s : State) : Word :=
  bitVal 32 s.gen.running <<< 14 ||| s.dig.st.code.setWidth 32 <<< 12 ||| bitVal 32 s.rej <<< 10 |||
    bitVal 32 s.rxValid <<< 9 ||| bitVal 32 s.busy <<< 8 ||| s.seq.code.setWidth 32 <<< 4 ||| s.lc.code.setWidth 32

end Sys2Proof.Machine
end

