-- ==== Sys2Proof/Machine/Pins.lean ====
section
/-! DEFINITION. What the channels present, what the block drives, and the levels the digitizer sees (20_memory.md
R52, R53; 43_waveform_generator.md R191). -/

namespace Sys2Proof.Machine

open Sys2Proof

/-- `CHOUT(c)`, the level a channel presents in this tick (R191). -/
def State.chOut (s : State) (c : Channel) : Bool :=
  if s.gen.running then
    match c.dtype with
    | .pulse => c.lvl
    | .custom => if c.idx < c.patLen then s.patBit c.idx else false
  else c.idle

/-- The pin an enabled channel drives, as a mask (R52). -/
def Channel.oeMask (c : Channel) : PinWord := if c.en then pinMask c.pin.toNat else 0

/-- The level an enabled channel puts on its pin, as a mask (R52). -/
def State.outMask (s : State) (c : Channel) : PinWord := if s.chOut c then c.oeMask else 0

/-- The three output pins of the assignment, as a mask (R52). -/
def PinAssignment.outputs (p : PinAssignment) : PinWord :=
  pinMask p.mosi.toNat ||| pinMask p.sclk.toNat ||| pinMask p.ss.toNat

/-- `dio_oe`: 1 on every pin an enabled channel drives; in the unspecified condition any value on the three output
pins and 0 on every other (R52). -/
def State.dioOe (s : State) : PinWord :=
  if s.ioFree then Config.free .dioOe s.fresh 16 &&& s.pins.outputs
  else s.gen.ss.oeMask ||| s.gen.sclk.oeMask ||| s.gen.mosi.oeMask

/-- `dio_out`: the level of the channel on every pin it drives and 0 on every other; in the unspecified condition
any value on the three output pins (R52). -/
def State.dioOut (s : State) : PinWord :=
  if s.ioFree then Config.free .dioOut s.fresh 16 &&& s.pins.outputs
  else s.outMask s.gen.ss ||| s.outMask s.gen.sclk ||| s.outMask s.gen.mosi

/-- The snapshot `pins` of this tick: the driven level of a driven pin, `dio_in` of every other (R52, R53). -/
def State.pinLevels (s : State) : PinWord := (s.dioOut &&& s.dioOe) ||| (s.ext &&& ~~~s.dioOe)

end Sys2Proof.Machine
end

