-- ==== Sys2Proof/Machine/Bus.lean ====
section
/-! DEFINITION. The host and its bus: the operation of this tick, the value of a read, what an accepted data write
stores, and which writes are accepted (20_memory.md R51, R56 to R60). -/

namespace Sys2Proof.Machine

open Sys2Proof

/-- What stands at a byte address of the host register space (R58). -/
inductive RegName where
  | cmd
  | status
  | err
  | pins
  | mode
  | speed
  | sysclk
  | xfer
  | rxLen
  | tSysclk
  | tDiv
  | tBitdiv
  | txbuf (j : Nat)
  | rxbuf (j : Nat)
deriving DecidableEq, Repr

/-- The address is aligned (R56). -/
def aligned (a : Addr) : Bool := a.toNat % 4 == 0

/-- The registers at `0x000, 0x004, ..., 0x02C`, in the order of the table of R58. -/
def controlRegs : List RegName :=
  [.cmd, .status, .err, .pins, .mode, .speed, .sysclk, .xfer, .rxLen, .tSysclk, .tDiv, .tBitdiv]

/-- What stands at word `k` of the host register space, byte address `4*k` (R58): the registers, then `TXBUF` from
`0x100` and `RXBUF` from `0x200`, 64 entries each. -/
def regAtWord (k : Nat) : Option RegName :=
  if k < 64 then controlRegs[k]?
  else if k < 128 then some (.txbuf (k - 64))
  else if k < 192 then some (.rxbuf (k - 128))
  else none

/-- The address map (R58); a misaligned or unmapped address names nothing (R56, R58). -/
def regAt (a : Addr) : Option RegName := if aligned a then regAtWord (a.toNat / 4) else none

/-- The value of a register (10_state.md R13 to R23). -/
def State.regValue (s : State) : RegName → Word
  | .cmd => 0
  | .status => s.status
  | .err => s.err.code.setWidth 32
  | .pins => s.pins.toWord
  | .mode => s.mode.toWord
  | .speed => s.speed
  | .sysclk => s.params.fSys
  | .xfer => s.xfer.toWord
  | .rxLen => s.rxLen.setWidth 32
  | .tSysclk => s.tSysclk
  | .tDiv => s.tDiv
  | .tBitdiv => s.tBitdiv
  | .txbuf j => (s.txByte j).setWidth 32
  | .rxbuf j => (s.rxByte j).setWidth 32

/-- What a read returns on `h_rdata`: 0 at a misaligned or unmapped address (R51, R56, R58). -/
def State.busRead (s : State) (a : Addr) : Word :=
  match regAt a with
  | some r => s.regValue r
  | none => 0

/-- The data register may be written in this state (R58). `CMD` has its own rule (30_encoding.md R85). -/
def State.writable (s : State) : RegName → Bool
  | .pins => s.lc == .closed
  | .mode => s.lc == .closed
  | .speed => s.lc == .closed
  | .xfer => s.seq == .idle
  | .txbuf _ => s.seq == .idle
  | .cmd => false
  | .status => false
  | .err => false
  | .sysclk => false
  | .rxLen => false
  | .tSysclk => false
  | .tDiv => false
  | .tBitdiv => false
  | .rxbuf _ => false

/-- Store the writable bits of `d` in a data register; the others are dropped (R59). -/
def State.setReg (s : State) (r : RegName) (d : Word) : State :=
  match r with
  | .pins => { s with pins := PinAssignment.ofWord d }
  | .mode => { s with mode := ProtocolMode.ofWord d }
  | .speed => { s with speed := d }
  | .xfer => { s with xfer := XferRegister.ofWord d }
  | .txbuf j => { s with txbuf := s.txbuf.write Config.bufEntries j (d.setWidth 8) }
  | .cmd => s
  | .status => s
  | .err => s
  | .sysclk => s
  | .rxLen => s
  | .tSysclk => s
  | .tDiv => s
  | .tBitdiv => s
  | .rxbuf _ => s

/-- The data register a write to `a` may store in, in this state (R59). -/
def State.writeTarget (s : State) (a : Addr) : Option RegName :=
  match regAt a with
  | some r => if s.writable r then some r else none
  | none => none

/-- What a write to a data register does: accepted (R59) or refused (R60). `s` is the state of the tick, `t` what the
engine makes of it. -/
def State.dataWrite (s : State) (a : Addr) (d : Word) (t : State) : State :=
  match s.writeTarget a with
  | some r => (t.setReg r d).accept
  | none => t.refuse

/-! ### The host (30_encoding.md R89, R90) -/

/-- The bus operation of this tick; a host with no line left does nothing (assumption log 6). -/
def State.busOp (s : State) : BusOp :=
  match s.host with
  | [] => .nop
  | .nop :: _ => .nop
  | .rd a :: _ => .rd a
  | .wr a d :: _ => .wr a d
  | .poll a _ _ :: _ => .rd a

/-- The lines left after this tick: a `poll` stays until its condition holds (R89). -/
def State.hostRest (s : State) : List HostLine :=
  match s.host with
  | [] => []
  | .nop :: h => h
  | .rd _ :: h => h
  | .wr _ _ :: h => h
  | .poll a mask value :: h => if s.busRead a &&& mask = value then h else s.host

/-- `h_rdata` of this tick, if it is a read (10_state.md R30). -/
def State.hRdata (s : State) : Option Word :=
  match s.busOp with
  | .rd a => some (s.busRead a)
  | .nop => none
  | .wr _ _ => none

end Sys2Proof.Machine
end

