-- ==== Sys2Proof/Machine/Digitizer.lean ====
section
/-! DEFINITION. The trigger selector and the oversampling digitizer (44_digitizer_sampler.md R220 to R227). -/

namespace Sys2Proof.Machine

open Sys2Proof

/-- `DET`, the trigger detector, over the previous and the present pin levels (R222). -/
def Digitizer.detects (g : Digitizer) (pins : PinWord) : Bool :=
  (pins &&& g.lowMask) == 0 && (pins &&& g.highMask) == g.highMask &&
    ((~~~g.prev &&& pins &&& g.riseMask) != 0 || (g.prev &&& ~~~pins &&& g.fallMask) != 0)

/-- The trigger fires in this tick (R223, R225). -/
def Digitizer.triggers (g : Digitizer) (pins : PinWord) : Bool :=
  g.st == .armed && g.trigEn && g.detects pins

/-- A sample after the first is stored in this tick (R226). -/
def Digitizer.samples (g : Digitizer) : Bool := g.st == .running && decide (g.scnt ≤ 1)

/-- Arming (42_transfer_sequencer.md R162). -/
def Digitizer.arm (g : Digitizer) : Digitizer := { g with st := .armed, trigEn := false, widx := 0, scnt := 0 }

/-- One tick of the digitizer's registers (R221, R225 to R227). -/
def Digitizer.tick (g : Digitizer) (pins : PinWord) : Digitizer :=
  let g' := { g with prev := pins }
  match g.st with
  | .armed =>
    if g.triggers pins then { g' with widx := 1, scnt := g.sdiv, st := .running } else g'
  | .running =>
    if 1 < g.scnt then { g' with scnt := g.scnt - 1 }
    else
      { g' with
        widx := g.widx + 1
        scnt := g.sdiv
        st := if g.widx + 1 = g.trigPos then .done else .running }
  | .ready => g'
  | .done => g'

/-- What one tick stores in `SMP`: sample 0 in the trigger tick (R225), then one every `DIG.SDIV` ticks (R226). -/
def Digitizer.store (g : Digitizer) (pins : PinWord) (smp : Memory 16) : Memory 16 :=
  if g.triggers pins then smp.write Config.maxSamples 0 pins
  else if g.samples then smp.write Config.maxSamples g.widx pins
  else smp

end Sys2Proof.Machine
end

