-- ==== Sys2Proof/Machine/Generator.lean ====
section
/-! DEFINITION. The waveform pattern generator: start, the step of a PULSE and of a CUSTOM channel, and the run length
(43_waveform_generator.md R192 to R196). -/

namespace Sys2Proof.Machine

open Sys2Proof

/-- Steps spent at a level per cycle: `HIGHCNT` for HIGH, `LOWCNT` for LOW (10_state.md R24). -/
def Channel.stepsAt (c : Channel) (level : Bool) : Nat := if level then c.highCnt else c.lowCnt

/-- The run-time state of a channel at START (R192). -/
def Channel.start (c : Channel) : Channel :=
  match c.dtype with
  | .pulse => { c with dcnt := c.divInit, lvl := c.initLvl, pcnt := c.stepsAt c.initLvl }
  | .custom => { c with dcnt := c.divInit, idx := 0 }

/-- One tick of a PULSE channel (R193). -/
def Channel.pulseStep (c : Channel) : Channel :=
  if 1 < c.dcnt then { c with dcnt := c.dcnt - 1 }
  else if 1 < c.pcnt then { c with dcnt := c.div, pcnt := c.pcnt - 1 }
  else if c.stepsAt (!c.lvl) ≠ 0 then { c with dcnt := c.div, lvl := !c.lvl, pcnt := c.stepsAt (!c.lvl) }
  else { c with dcnt := c.div, pcnt := c.stepsAt c.lvl }

/-- One tick of a CUSTOM channel (R194). -/
def Channel.customStep (c : Channel) : Channel :=
  if 1 < c.dcnt then { c with dcnt := c.dcnt - 1 } else { c with dcnt := c.div, idx := c.idx + 1 }

/-- One tick of a channel of a running generator. -/
def Channel.tick (c : Channel) : Channel :=
  match c.dtype with
  | .pulse => c.pulseStep
  | .custom => c.customStep

/-- START: the generator runs from the next tick on (R192, 42_transfer_sequencer.md R163). -/
def Generator.start (g : Generator) : Generator :=
  { g with ss := g.ss.start, sclk := g.sclk.start, mosi := g.mosi.start, rt := 0, running := true }

/-- One tick of the generator: while it runs every channel steps and `GEN.RT` counts, and it stops when the count
reaches `GEN.RUNLEN`; while it is stopped nothing changes (R196). -/
def Generator.tick (g : Generator) : Generator :=
  if g.running then
    { g with
      ss := g.ss.tick
      sclk := g.sclk.tick
      mosi := g.mosi.tick
      rt := g.rt + 1
      running := g.rt + 1 != g.runLen }
  else g

end Sys2Proof.Machine
end

