-- ==== Sys2Proof/Machine/Reconstructor.lean ====
section
/-! DEFINITION. The sample-to-bit decimator and the byte reconstructor (45_decimator_reconstructor.md R251 to R255). -/

namespace Sys2Proof.Machine

open Sys2Proof

/-- `d[k]`: the MISO bit of every second snapshot from index 0 on (R251). -/
def State.decodedBit (s : State) (k : Nat) : Bool := (s.sample (2 * k)).getLsbD s.pins.miso.toNat

/-- `byte[j]` from the decoded bits `8*j .. 8*j + 7` (R253). -/
def packByte (lsbRx : Bool) (d : Nat → Bool) (j : Nat) : Byte :=
  packBits (fun i => d (8 * j + i)) (fun i => if lsbRx then i else 7 - i)

/-- The `n` bytes of the result; the bits from `8*n` on are dropped (R253, R254). -/
def State.decodedBytes (s : State) : List Byte :=
  (List.range s.latch.n).map (packByte s.latch.lsbRx s.decodedBit)

/-- Step 11 and the end of the transfer: the result is stored and offered, `SEQ <- DONE` (R255,
42_transfer_sequencer.md R170). The trace is discarded and the pattern is out of use, so `SMP` and `PAT` hold no
value the spec fixes (10_state.md R26, 93_implementation_defined.md U2). -/
def State.complete (bytes : List Byte) (s : State) : State :=
  { s.succeed with
    rxbuf := Memory.ofList 0 bytes
    rxLen := BitVec.ofNat 7 bytes.length
    rxValid := true
    rxFree := false
    seq := .done
    smp := []
    pat := [] }

end Sys2Proof.Machine
end

