-- ==== Sys2Proof/Machine/Sequencer.lean ====
section
/-! DEFINITION. The transfer sequencer after the command tick: START, counting, polls, completion, the two in-flight
errors (42_transfer_sequencer.md R163 to R170; priority 60_exceptions.md R277). -/

namespace Sys2Proof.Machine

open Sys2Proof

/-- START (R163): the generator starts, the start event reaches the trigger selector, `TCNT <- 0`. -/
def State.start (s : State) : State :=
  { s with gen := s.gen.start, dig := { s.dig with trigEn := true }, tcnt := 0, seq := .running }

/-- This tick, with `SEQ = RUNNING`, is a poll tick (R166). -/
def State.isPoll (s : State) : Bool := decide (0 < s.tcnt) && s.tcnt % s.params.pollTicks.toNat == 0

/-- What a poll in this tick reads: `DONE`, unless completion is withheld (R166). -/
def State.readsDone (s : State) : Bool := s.dig.st == .done && !s.withheld

/-- The sequencer's part of one tick: from the state `s` of the tick to `t`, which holds what the other units make
of the tick. -/
def State.sequence (s t : State) : State :=
  match s.seq with
  | .idle => t
  | .armed => if s.driverFault then t.raise .driver else t.start
  | .running =>
    let t' := { t with tcnt := s.tcnt + 1 }
    if s.driverFault then t'.raise .driver
    else if s.isPoll then
      if s.readsDone then t'.complete s.decodedBytes
      else if s.latch.deadline ≤ s.tcnt then t'.raise .timeout
      else t'
    else t'
  | .done => { t with seq := .idle }

end Sys2Proof.Machine
end

