-- ==== Sys2Proof/Machine/Tick.lean ====
section
/-! DEFINITION. One tick of the block: what the engine does by itself, what a host operation adds, the acceptance of
a command, and reset (00_scope.md R3, 20_memory.md R61, 60_exceptions.md R277). Every unit reads the state of the
tick and writes the state of the next. -/

namespace Sys2Proof.Machine

open Sys2Proof

/-- What the block does in a tick whatever the host does: generator, digitizer, sequencer, and the inputs and host
lines of the tick used up. -/
def State.engine (s : State) : State :=
  s.sequence
    { s with
      gen := s.gen.tick
      dig := s.dig.tick s.pinLevels
      smp := s.dig.store s.pinLevels s.smp
      env := s.env.tail
      host := s.hostRest
      rdata := s.hRdata
      fresh := s.fresh + 1 }

/-- One tick without reset: `op` is what the host's operation adds to the engine's own updates. -/
def State.tick (s : State) (op : State → State) : State := (op s.engine).unspecify

/-- The lifecycle states a command is accepted in (30_encoding.md R85). -/
def acceptedIn (i : Instr) (lc : Lifecycle) : Bool :=
  match i with
  | .construct => lc == .closed
  | .configure => lc == .opened || lc == .ready || lc == .desync
  | .transfer => lc == .ready
  | .close => lc == .opened || lc == .ready || lc == .failed || lc == .desync

/-- The command is accepted in this state (R85). -/
def State.accepts (s : State) (i : Instr) : Bool := s.seq == .idle && acceptedIn i s.lc

/-- The tick in which command `i` is written: `effect` if it is accepted, a refusal if not (R85). -/
def State.command (s : State) (i : Instr) (effect : State → State) : State :=
  s.tick (fun t => if s.accepts i then effect t.accept else t.refuse)

/-- The tick in which `rst = 1`: every piece of state takes its reset value and the host's operation has no effect
(70_reset_and_hazards.md R310). A read still returns the value of this state, the host and the environment go on,
and the buffers and `DIG.PREV` hold no value the spec fixes (R311). -/
def State.resetTick (s : State) : State :=
  { State.reset with
    params := s.params
    dig := Digitizer.resetKeeping (Config.free .prev (s.fresh + 1) 16)
    fresh := s.fresh + 1
    born := s.fresh + 1
    host := s.hostRest
    env := s.env.tail
    rdata := s.hRdata }

end Sys2Proof.Machine
end

