-- ==== Sys2Proof/Machine/Configure.lean ====
section
/-! DEFINITION. CONFIGURE: the clock divider, the three output channels, the digitizer and the CPOL/CPHA trigger
selector (41_configure.md R120 to R130). -/

namespace Sys2Proof.Machine

open Sys2Proof

/-- `CH[SS]` as CONFIGURE programs it (R126). -/
def ssChannel (p : PinAssignment) : Channel :=
  { Channel.reset with
    en := true
    pin := p.ss.setWidth 4
    idle := true
    dtype := .pulse
    initLvl := false
    lowCnt := 1
    highCnt := 0
    div := 1
    divInit := 1 }

/-- `CH[SCLK]` as CONFIGURE programs it (R127). -/
def sclkChannel (p : PinAssignment) (m : ProtocolMode) (D : Nat) : Channel :=
  { Channel.reset with
    en := true
    pin := p.sclk.setWidth 4
    idle := m.cpol
    dtype := .pulse
    initLvl := m.cpol
    lowCnt := 1
    highCnt := 1
    div := D
    divInit := D }

/-- `CH[MOSI]` as CONFIGURE programs it: the phase offset is the length of the first pattern bit (R128). -/
def mosiChannel (p : PinAssignment) (m : ProtocolMode) (D : Nat) : Channel :=
  { Channel.reset with
    en := true
    pin := p.mosi.setWidth 4
    idle := false
    dtype := .custom
    div := 2 * D
    divInit := 2 * D + m.phase * D
    patLen := 0 }

/-- The digitizer as CONFIGURE programs it, with the trigger selector's masks (R129, R130). -/
def configuredDigitizer (p : PinAssignment) (m : ProtocolMode) (D : Nat) (prev : PinWord) : Digitizer :=
  { Digitizer.resetKeeping prev with
    singleShot := true
    sdiv := D
    fmt := 16
    trigSrc := .outStart
    riseMask := if m.cpol = m.cpha then pinMask p.sclk.toNat else 0
    fallMask := if m.cpol = m.cpha then 0 else pinMask p.sclk.toNat
    lowMask := pinMask p.ss.toNat
    highMask := 0
    trigPos := 0
    bufSize := 0
    st := .ready }

/-- ConfigurationError at CONFIGURE: the timing registers of a failed CONFIGURE (R125). -/
def State.configureFails (s : State) : State := { s.raise .configure with tDiv := 0, tBitdiv := 0 }

/-- A CONFIGURE that passes its checks (R120). -/
def State.program (s : State) : State :=
  let D := s.divider
  { s.succeed with
    tDiv := BitVec.ofNat 32 D
    tBitdiv := BitVec.ofNat 32 (2 * D)
    gen :=
      { s.gen with
        ss := ssChannel s.pins
        sclk := sclkChannel s.pins s.mode D
        mosi := mosiChannel s.pins s.mode D }
    dig := configuredDigitizer s.pins s.mode D s.dig.prev
    lc := .ready }

/-- What an accepted CONFIGURE does (R120): `resetDigitalIO`, the latch of `F_SYS`, the checks in their order (R125),
the programming. A driver failure leaves the generator, the digitizer and the output pins unspecified. `PAT` and
`SMP` are irrelevant after it (70_reset_and_hazards.md R312): they hold no value the spec fixes. `RXVALID`, `RXLEN` and
`RXBUF` are not touched, a driver failure included (R120; assumption log 13). -/
def State.configure (fault : Bool) (s : State) : State :=
  let s' := { s.resetDigitalIO with tSysclk := s.params.fSys, pat := [], smp := [] }
  if s.speed = 0 then s'.configureFails
  else if s.divider = 0 then s'.configureFails
  else if fault then s'.configureFails.indeterminate
  else s'.program

/-- `CONFIGURE` (R120). -/
def execConfigure (s : State) : Host.Outcome State Fault Refusal :=
  .next (s.command .configure (State.configure s.driverFault))

end Sys2Proof.Machine
end

