-- ==== Sys2Proof/Machine/Lifecycle.lean ====
section
/-! DEFINITION. The lifecycle commands CONSTRUCT and CLOSE (40_lifecycle_commands.md R101, R105). -/

namespace Sys2Proof.Machine

open Sys2Proof

/-- What an accepted CONSTRUCT does: the checks in their order, then `LC <- OPEN` (R101). -/
def State.construct (fault : Bool) (s : State) : State :=
  if !s.pins.inRange then s.raise .construct
  else if !s.pins.distinct then s.raise .construct
  else if fault then s.raise .construct
  else { s.succeed with lc := .opened }

/-- `CONSTRUCT` (R101). -/
def execConstruct (s : State) : Host.Outcome State Fault Refusal :=
  .next (s.command .construct (State.construct s.driverFault))

/-- What an accepted CLOSE does (R105). `PAT`, `SMP` and `RXBUF` then hold no value the spec fixes. -/
def State.close (s : State) : State :=
  { s.resetDigitalIO.succeed with
    lc := .closed
    rxValid := false
    rxLen := 0
    rxFree := false
    tSysclk := 0
    tDiv := 0
    tBitdiv := 0
    latch := Latches.reset
    tcnt := 0
    pat := []
    smp := []
    rxbuf := [] }

/-- `CLOSE` (R105). -/
def execClose (s : State) : Host.Outcome State Fault Refusal := .next (s.command .close State.close)

end Sys2Proof.Machine
end

