-- ==== Sys2Proof/Machine/Transfer.lean ====
section
/-! DEFINITION. TRANSFER, its command tick: capacity check, driver check, numbers, pattern, arming
(42_transfer_sequencer.md R150 to R162). What follows the command tick is the sequencer's. -/

namespace Sys2Proof.Machine

open Sys2Proof

/-- `PAT` of the request: entries `0 .. N-1`; the others are not written and hold no value the spec fixes (R161,
93_implementation_defined.md U2). -/
def State.pattern (s : State) : Memory 1 :=
  Memory.ofList 0 ((List.range s.reqBits).map (fun k => BitVec.ofBool (s.patternBit k)))

/-- Steps 2 to 7a: the numbers (R153 to R156), the programming (R159 to R161), arming (R162). The result of the
transfer before is withdrawn and becomes unspecified (R156). -/
def State.load (s : State) : State :=
  let N := s.reqBits
  let D := s.halfBit
  let R := runLength N D
  { s.succeed with
    latch :=
      { n := s.reqBytes
        e := s.reqErrClk
        nBits := N
        nSamp := sampleCount N
        lsbRx := s.xfer.lsbRx
        deadline := deadlineOf R D }
    rxValid := false
    rxFree := true
    gen := { s.gen with runLen := R, mosi := { s.gen.mosi with patLen := N } }
    pat := s.pattern
    dig := { s.dig.arm with bufSize := sampleCount N, trigPos := sampleCount N }
    seq := .armed }

/-- What an accepted TRANSFER does in its tick: CapacityError before anything else (R151), then DriverError (R157),
then the loading and arming. -/
def State.transfer (fault : Bool) (s : State) : State :=
  if s.overCapacity then s.raise .capacity
  else if fault then s.raise .driver
  else s.load

/-- `TRANSFER` (R150). -/
def execTransfer (s : State) : Host.Outcome State Fault Refusal :=
  .next (s.command .transfer (State.transfer s.driverFault))

end Sys2Proof.Machine
end

