-- ==== Sys2Proof/Machine/Dispatch.lean ====
section
/-! DEFINITION. One arm per command of spec/opcode_table.json. A command's meaning is the whole tick in which it is
written to `CMD`, acceptance included (30_encoding.md R85). -/

namespace Sys2Proof.Machine

open Sys2Proof

def exec (i : Instr) (s : State) : Host.Outcome State Fault Refusal :=
  match i with
  | .construct => Sys2Proof.Machine.execConstruct s
  | .configure => Sys2Proof.Machine.execConfigure s
  | .transfer => Sys2Proof.Machine.execTransfer s
  | .close => Sys2Proof.Machine.execClose s

end Sys2Proof.Machine
end

