-- ==== Sys2Proof/Machine/Fetch.lean ====
section
/-! DEFINITION. Which command, if any, the host writes in this tick, and how a command is put where the next tick
takes it. The block has no program counter and fetches no instruction (10_state.md R12): a command reaches it as
the data of a host write to `CMD` (R19). -/

namespace Sys2Proof.Machine

open Sys2Proof

/-- The address of `CMD` (20_memory.md R58). -/
def cmdAddr : Addr := 0

/-- What the host's operation asks of the block in this tick. -/
inductive Request where
  /-- No operation, or a read: nothing is added to the engine's own updates (20_memory.md R51). -/
  | quiet
  /-- A write to `CMD` of a legal word. -/
  | command (i : Instr)
  /-- A write to `CMD` of an illegal word, which is refused (30_encoding.md R86). -/
  | illegal
  /-- A write to any other address. -/
  | data (a : Addr) (d : Word)
deriving DecidableEq, Repr

/-- The request of a bus operation. -/
def BusOp.request : BusOp → Request
  | .nop => .quiet
  | .rd _ => .quiet
  | .wr a d =>
    if a = cmdAddr then
      match decode d with
      | .ok i => .command i
      | .error _ => .illegal
    else .data a d

/-- The inputs with the reset line of the coming tick at 0. -/
def envWithoutReset : List EnvTick → List EnvTick
  | [] => []
  | e :: es => { e with rst := false } :: es

/-- The state whose very next tick is the host's write of the word to `CMD`. -/
def State.withCommandWord (s : State) (w : Word) : State :=
  { s with host := .wr cmdAddr w :: s.host, env := envWithoutReset s.env }

end Sys2Proof.Machine
end

