-- ==== Sys2Proof/Machine/Step.lean ====
section
/-! DEFINITION. One step of the machine is one tick of the clock (00_scope.md R3), with reset first and then the
host's operation (60_exceptions.md R277). -/

namespace Sys2Proof.Machine

open Sys2Proof

/-- One tick. -/
def step (s : State) : Host.Outcome State Fault Refusal :=
  if s.rst then .next s.resetTick
  else
    match s.busOp.request with
    | .quiet => .next (s.tick id)
    | .command i => exec i s
    | .illegal => .next (s.tick State.refuse)
    | .data a d => .next (s.tick (s.dataWrite a d))

/-- The state whose next step runs the command word `w` of `nbits` bits: the host's next line is the write of it to
`CMD`, and the reset line is low (assumption log 9). -/
def State.withFetchWord (s : State) (nbits w : Nat) : State :=
  s.withCommandWord (BitVec.ofNat 32 (w % 2 ^ nbits))

end Sys2Proof.Machine
end

