-- ==== Sys2Proof/Machine/Script.lean ====
section
/-! DEFINITION. The host script syntax and its expansion into primitive lines, one tick each (30_encoding.md R89). -/

namespace Sys2Proof.Machine

open Sys2Proof

/-- The byte address of a register (20_memory.md R58). DESIGN CHOICE: R58 and R89 give an entry past 63 no address;
here the offset wraps in the 12 address bits (assumption log 21). -/
def addrOf : RegName → Addr
  | .cmd => 0x000
  | .status => 0x004
  | .err => 0x008
  | .pins => 0x00C
  | .mode => 0x010
  | .speed => 0x014
  | .sysclk => 0x018
  | .xfer => 0x01C
  | .rxLen => 0x020
  | .tSysclk => 0x024
  | .tDiv => 0x028
  | .tBitdiv => 0x02C
  | .txbuf j => BitVec.ofNat 12 (0x100 + 4 * j)
  | .rxbuf j => BitVec.ofNat 12 (0x200 + 4 * j)

/-- One line of a host script (R89). -/
inductive ScriptLine where
  | wr (r : RegName) (value : Word)
  | rd (r : RegName)
  | idle (k : Nat)
  | poll (r : RegName) (mask value : Word)
  | construct
  | configure
  | transfer
  | close
  | setPins (mosi miso sclk ss : BitVec 8)
  | setMode (cpol cpha : Bool)
  | setSpeed (hz : Word)
  | setXfer (n : BitVec 7) (lsbTx lsbRx : Bool) (e : BitVec 10)
  | load (bytes : List Byte)
  | wait
deriving DecidableEq, Repr

/-- The writes of a `LOAD` from entry `j` on (R89). DESIGN CHOICE: a `LOAD` of more than 64 bytes goes on with the
addresses `addrOf` gives past entry 63 (assumption log 21). -/
def loadLines (j : Nat) : List Byte → List HostLine
  | [] => []
  | b :: bs => .wr (addrOf (.txbuf j)) (b.setWidth 32) :: loadLines (j + 1) bs

/-- The expansion of one line (R89). -/
def ScriptLine.expand : ScriptLine → List HostLine
  | .wr r value => [.wr (addrOf r) value]
  | .rd r => [.rd (addrOf r)]
  | .idle k => List.replicate k .nop
  | .poll r mask value => [.poll (addrOf r) mask value]
  | .construct => [.wr (addrOf .cmd) 1]
  | .configure => [.wr (addrOf .cmd) 2]
  | .transfer => [.wr (addrOf .cmd) 3]
  | .close => [.wr (addrOf .cmd) 4]
  | .setPins mosi miso sclk ss =>
    [.wr (addrOf .pins) (PinAssignment.toWord { mosi := mosi, miso := miso, sclk := sclk, ss := ss })]
  | .setMode cpol cpha => [.wr (addrOf .mode) (ProtocolMode.toWord { cpol := cpol, cpha := cpha })]
  | .setSpeed hz => [.wr (addrOf .speed) hz]
  | .setXfer n lsbTx lsbRx e =>
    [.wr (addrOf .xfer) (XferRegister.toWord { byteCount := n, lsbTx := lsbTx, lsbRx := lsbRx, errClk := e })]
  | .load bytes => loadLines 0 bytes
  | .wait => [.poll (addrOf .status) 0x100 0]

/-- The primitive lines of a whole script. -/
def scriptLines (script : List ScriptLine) : List HostLine := script.flatMap ScriptLine.expand

end Sys2Proof.Machine
end

