-- ==== Sys2Proof/Safety.lean ====
section
/-! DEFINITION. The terms claims are stated in: runs of ticks, what the environment does throughout a run, and the
invariant `State.Inv` of the engine. -/

namespace Sys2Proof.Machine

open Sys2Proof

/-! ### Runs -/

/-- The state one tick later; a machine that stopped would stay where it is. -/
def State.next (s : State) : State :=
  match step s with
  | .next t => t
  | .fault _ => s
  | .refused _ => s

/-- The state `k` ticks later. -/
def State.after : Nat → State → State
  | 0, s => s
  | k + 1, s => State.after k s.next

/-- `P` holds in each of the `k` ticks from `s` on. -/
def Throughout (P : State → Bool) : Nat → State → Bool
  | 0, _ => true
  | k + 1, s => P s && Throughout P k s.next

/-- No reset in this tick. -/
def State.noReset (s : State) : Bool := !s.rst

/-- No reset and no fault in this tick: `rst = 0`, `fault_in = 0`. -/
def State.quiet (s : State) : Bool := !s.rst && s.fault == 0

/-- The environment is a loopback in this tick: the MISO pin shows the level of the MOSI pin
(45_decimator_reconstructor.md R256). -/
def State.loopback (s : State) : Bool :=
  s.ext.getLsbD s.pins.miso.toNat == s.pinLevels.getLsbD s.pins.mosi.toNat

/-- The MISO pin is at a fixed level in this tick (R258). -/
def State.misoAt (level : Bool) (s : State) : Bool := s.ext.getLsbD s.pins.miso.toNat == level

/-- The host writes a TRANSFER in this tick and the block accepts it with a request that fits
(42_transfer_sequencer.md R150, R151). -/
def State.startsTransfer (s : State) : Bool :=
  s.busOp.request == .command .transfer && s.accepts .transfer && !s.overCapacity

/-- No reset in this tick, no driver failure, and completion withheld: `rst = 0`, `fault_in = 2` (10_state.md R31). -/
def State.withholding (s : State) : Bool := !s.rst && s.fault == 2

/-- Relative tick `t` of the transfer whose TRANSFER is written in `s`: `t` counts from START, two ticks after the
command (00_scope.md R3, 42_transfer_sequencer.md R163). -/
def State.atTick (s : State) (t : Nat) : State := s.after (t + 2)

/-! ### One tick beside another -/

/-- The same tick with no bus operation. -/
def State.silent (s : State) : State := { s with host := .nop :: s.hostRest }

/-- The state after a tick in which the engine is at rest: `DIG.PREV` follows the pins, and the inputs and the host's
line of the tick are used up. -/
def State.restTick (s : State) : State :=
  { s with
    dig := { s.dig with prev := s.pinLevels }
    env := s.env.tail
    host := s.hostRest
    rdata := s.hRdata
    fresh := s.fresh + 1 }

/-- `t` holds what `s` holds in the parameters, the operand registers, `TXBUF` and the timing registers (10_state.md
R13 to R18, R23). -/
abbrev State.KeepsRegisters (s t : State) : Prop :=
  t.params = s.params ∧ t.pins = s.pins ∧ t.mode = s.mode ∧ t.speed = s.speed ∧ t.xfer = s.xfer ∧
    t.txbuf = s.txbuf ∧ t.tSysclk = s.tSysclk ∧ t.tDiv = s.tDiv ∧ t.tBitdiv = s.tBitdiv

/-! ### Numbers of the transfer in flight -/

/-- `T = (1 + CPHA) * D`, the tick of the trigger after START (44_digitizer_sampler.md R229). -/
def State.triggerTick (s : State) : Nat := (1 + s.mode.phase) * s.halfBit

/-- `tc = (2*N + 2 + CPHA) * D`, the tick of the last sample (R230). -/
def lastSampleTick (N phase D : Nat) : Nat := (2 * N + 2 + phase) * D

/-- `tp = POLL_TICKS * ceil((tc + 1) / POLL_TICKS)`, the poll that reads `DONE` (42_transfer_sequencer.md R171). -/
def pollTick (poll tc : Nat) : Nat := poll * ((tc + 1 + poll - 1) / poll)

/-- The first poll tick at or after the deadline (60_exceptions.md R273). -/
def lastPollTick (poll deadline : Nat) : Nat := poll * ((deadline + poll - 1) / poll)

/-- The tick, counted from START, of the poll that reads `DONE` in the transfer of the request in `XFER`. -/
def State.reqPollTick (s : State) : Nat :=
  pollTick s.params.pollTicks.toNat (lastSampleTick s.reqBits s.mode.phase s.halfBit)

/-- SCLK of the closed form: `CPOL ^ ((t div D) mod 2)` (43_waveform_generator.md R198). -/
def sclkLevel (cpol : Bool) (D t : Nat) : Bool := cpol ^^ (t / D % 2 == 1)

/-- The index of the pattern bit on MOSI at `t` of the closed form (R199). -/
def patternIndex (D phase t : Nat) : Nat :=
  if t < 2 * D + phase * D then 0 else 1 + (t - 2 * D - phase * D) / (2 * D)

/-- MOSI of the closed form, over the pattern bits `p` (R199). -/
def mosiLevel (p : Nat → Bool) (N D phase t : Nat) : Bool :=
  if patternIndex D phase t < N then p (patternIndex D phase t) else false

/-! ### The invariant -/

/-- A channel holds the registers of `c`, whatever its pattern length and run-time state. -/
abbrev Channel.programmedAs (ch c : Channel) : Prop :=
  ch.en = c.en ∧ ch.pin = c.pin ∧ ch.idle = c.idle ∧ ch.dtype = c.dtype ∧ ch.div = c.div ∧ ch.divInit = c.divInit ∧
    ch.lowCnt = c.lowCnt ∧ ch.highCnt = c.highCnt ∧ ch.initLvl = c.initLvl

/-- A digitizer holds the registers of `d`, whatever its sample counts and run-time state. -/
abbrev Digitizer.programmedAs (dig d : Digitizer) : Prop :=
  dig.singleShot = d.singleShot ∧ dig.sdiv = d.sdiv ∧ dig.fmt = d.fmt ∧ dig.trigSrc = d.trigSrc ∧
    dig.lowMask = d.lowMask ∧ dig.highMask = d.highMask ∧ dig.riseMask = d.riseMask ∧ dig.fallMask = d.fallMask

/-- The engine is configured (41_configure.md R122 to R130). -/
structure State.Configured (s : State) : Prop where
  sysclk : s.tSysclk = s.params.fSys
  ratio : s.halfBit = s.divider
  positive : 1 ≤ s.halfBit
  bit : s.tBitdiv.toNat = 2 * s.halfBit
  ss : s.gen.ss.programmedAs (ssChannel s.pins)
  sclk : s.gen.sclk.programmedAs (sclkChannel s.pins s.mode s.halfBit)
  mosi : s.gen.mosi.programmedAs (mosiChannel s.pins s.mode s.halfBit)
  dig : s.dig.programmedAs (configuredDigitizer s.pins s.mode s.halfBit 0)

/-- A transfer has been loaded and its result is not there yet (42_transfer_sequencer.md R153 to R161). -/
structure State.Loaded (s : State) : Prop where
  bytes : 1 ≤ s.latch.n ∧ s.latch.n ≤ Config.maxBytes
  bits : s.latch.nBits = bitCount s.latch.n s.latch.e
  samples : s.latch.nSamp = sampleCount s.latch.nBits
  capacity : s.latch.nSamp < Config.maxSamples
  run : s.gen.runLen = runLength s.latch.nBits s.halfBit
  deadline : s.latch.deadline = deadlineOf s.gen.runLen s.halfBit
  position : s.dig.trigPos = s.latch.nSamp ∧ s.dig.bufSize = s.latch.nSamp
  length : s.gen.mosi.patLen = s.latch.nBits
  pattern : ∀ k, k < s.latch.nBits → s.pat.read? k ≠ none
  noError : s.err = .none
  noResult : s.rxValid = false

/-- The run-time state of the running generator at tick `t` after START, in the closed forms of
43_waveform_generator.md R197 to R199. -/
structure State.GeneratorPhase (s : State) (t : Nat) : Prop where
  inRun : t < s.gen.runLen
  count : s.gen.rt = t
  ss : s.gen.ss.lvl = false ∧ s.gen.ss.pcnt = 1 ∧ s.gen.ss.dcnt = 1
  sclk : s.gen.sclk.lvl = sclkLevel s.mode.cpol s.halfBit t
  sclkStep : s.gen.sclk.pcnt = 1 ∧ s.gen.sclk.dcnt = s.halfBit - t % s.halfBit
  mosi : s.gen.mosi.idx = patternIndex s.halfBit s.mode.phase t
  mosiStep : t + s.gen.mosi.dcnt = (s.gen.mosi.idx + 1) * (2 * s.halfBit) + s.mode.phase * s.halfBit
  mosiLeft : 1 ≤ s.gen.mosi.dcnt

/-- The run-time state of the digitizer at tick `t` after START (44_digitizer_sampler.md R229, R230): it waits until
the trigger tick, takes sample `i` at `T + i*D`, and is `DONE` from the tick after the last sample. -/
structure State.DigitizerPhase (s : State) (t : Nat) : Prop where
  enabled : s.dig.trigEn = true
  notReady : s.dig.st ≠ .ready
  waiting : s.dig.st = .armed → t ≤ s.triggerTick ∧
    s.dig.prev.getLsbD s.pins.sclk.toNat = sclkLevel s.mode.cpol s.halfBit (t - 1)
  storing : s.dig.st = .running → 1 ≤ s.dig.widx ∧ s.dig.widx < s.latch.nSamp ∧ 1 ≤ s.dig.scnt ∧
    s.dig.scnt ≤ s.halfBit ∧ t + s.dig.scnt = s.triggerTick + s.dig.widx * s.halfBit + 1
  complete : s.dig.st = .done →
    s.dig.widx = s.latch.nSamp ∧ lastSampleTick s.latch.nBits s.mode.phase s.halfBit + 1 ≤ t

/-- The invariant: true at reset, and every tick keeps it, whatever the host and the environment do. -/
structure State.Inv (s : State) : Prop where
  /-- 00_scope.md R2. -/
  params : s.params.wellFormed = true
  /-- The four buffers are in canonical form and within their sizes (10_state.md R26). -/
  buffers : s.txbuf.wf Config.bufEntries = true ∧ s.rxbuf.wf Config.bufEntries = true ∧
    s.pat.wf Config.patEntries = true ∧ s.smp.wf Config.maxSamples = true
  /-- `SEQ != IDLE` only while `LC = READY` (10_state.md R12). -/
  busy : s.seq ≠ .idle → s.lc = .ready
  /-- The unspecified condition stands in `DESYNC` and, after a driver failure, in `FAILED` (60_exceptions.md R278). -/
  freeOnly : s.ioFree = true → s.lc = .desync ∨ s.lc = .failed
  free : s.ioFree = true → s.gen = Generator.free s.fresh ∧ s.dig = Digitizer.free s.fresh
  desync : s.lc = .desync → s.ioFree = true ∧ s.rxValid = false
  /-- The pin assignment of an instance is legal (40_lifecycle_commands.md R101, R103). -/
  pins : s.lc ≠ .closed → s.pins.legal = true
  /-- Before CONFIGURE, after an arithmetic failure and after CLOSE the digital I/O is in its reset state. -/
  released : s.lc = .closed ∨ s.lc = .opened ∨ (s.lc = .failed ∧ s.ioFree = false) →
    s.gen = Generator.reset ∧ s.dig = Digitizer.resetKeeping s.dig.prev
  /-- The timing registers hold 0 before CONFIGURE (10_state.md R32, 40_lifecycle_commands.md R105). -/
  untimed : s.lc = .closed ∨ s.lc = .opened → s.tSysclk = 0 ∧ s.tDiv = 0 ∧ s.tBitdiv = 0 ∧ s.rxValid = false ∧
    s.rxLen = 0 ∧ s.rxFree = false ∧ s.latch = Latches.reset ∧ s.tcnt = 0
  /-- 41_configure.md R125. -/
  failed : s.lc = .failed → s.tDiv = 0 ∧ s.tBitdiv = 0 ∧ s.tSysclk = s.params.fSys
  ready : s.lc = .ready → s.Configured
  /-- A result is offered only in full, and nothing of it is unspecified (10_state.md R22,
  45_decimator_reconstructor.md R255). -/
  result : s.rxValid = true →
    s.rxFree = false ∧ s.rxLen.toNat ≤ Config.maxBytes ∧ ∀ j, j < s.rxLen.toNat → s.rxbuf.read? j ≠ none
  rest : s.lc = .ready → s.seq = .idle → s.gen.running = false ∧ (s.dig.st = .ready ∨ s.dig.st = .done)
  /-- 42_transfer_sequencer.md R162: armed and waiting, the generator stopped. -/
  armed : s.seq = .armed → s.Loaded ∧ s.gen.running = false ∧ s.dig.st = .armed ∧ s.dig.trigEn = false
  loaded : s.seq = .running → s.Loaded
  /-- No poll tick at or after the deadline is passed over (R168). -/
  bounded : s.seq = .running → s.tcnt ≤ lastPollTick s.params.pollTicks.toNat s.latch.deadline
  generator : s.seq = .running → s.gen.running = true → s.GeneratorPhase s.tcnt
  stopped : s.seq = .running → s.gen.running = false → s.gen.runLen ≤ s.tcnt
  digitizer : s.seq = .running → s.DigitizerPhase s.tcnt
  done : s.seq = .done →
    s.gen.running = false ∧ s.dig.st = .done ∧ s.rxValid = true ∧ s.rxFree = false ∧ s.err = .none

/-! ### Widths -/

/-- The fields of a channel fit the widths of 10_state.md R24. -/
def Channel.fits (c : Channel) : Bool :=
  decide (c.div < 2 ^ Config.tickBits) && decide (c.divInit < 2 ^ Config.tickBits) && decide (c.lowCnt < 2 ^ 16) &&
    decide (c.highCnt < 2 ^ 16) && decide (c.patLen < 2 ^ 10) && decide (c.dcnt < 2 ^ Config.tickBits) &&
    decide (c.pcnt < 2 ^ 16) && decide (c.idx < 2 ^ 10)

/-- The fields of the digitizer fit the widths of 10_state.md R27, R28. -/
def Digitizer.fits (g : Digitizer) : Bool :=
  decide (g.sdiv < 2 ^ Config.tickBits) && decide (g.fmt < 2 ^ 5) && decide (g.trigPos < 2 ^ 11) &&
    decide (g.bufSize < 2 ^ 11) && decide (g.scnt < 2 ^ Config.tickBits) && decide (g.widx < 2 ^ 11)

/-- Every counter that the state holds as a natural number fits the width the spec gives it (10_state.md R24, R25,
R27 to R29; 42_transfer_sequencer.md R158). -/
structure State.Fits (s : State) : Prop where
  channels : s.gen.ss.fits = true ∧ s.gen.sclk.fits = true ∧ s.gen.mosi.fits = true
  generator : s.gen.runLen < 2 ^ Config.tickBits ∧ s.gen.rt < 2 ^ Config.tickBits
  digitizer : s.dig.fits = true
  latches : s.latch.n < 2 ^ 7 ∧ s.latch.e < 2 ^ 10 ∧ s.latch.nBits < 2 ^ 11 ∧ s.latch.nSamp < 2 ^ 11 ∧
    s.latch.deadline < 2 ^ Config.tickBits
  count : s.tcnt < 2 ^ Config.tickBits

end Sys2Proof.Machine
end

