-- ==== Sys2Proof/Certificates/Slice0/Obligations.lean ====
section
/-! DEFINITION. The statements for the provers, in the order of the spec's files: encoding, bus, lifecycle, CONFIGURE,
TRANSFER, sequencer, generator, digitizer, result, errors, reset, and the rules of the whole machine. -/

section Statements

open Sys2Proof Sys2Proof.Machine

/-! ### Encoding and the command tick (30_encoding.md) -/

/-- R80 to R84: the four command words, written out from the table, decode to the four commands, and each command's
word is that one. -/
def Obligations.CommandWords : Prop :=
  decode 0x00000001#32 = .ok .construct ∧ decode 0x00000002#32 = .ok .configure ∧
  decode 0x00000003#32 = .ok .transfer ∧ decode 0x00000004#32 = .ok .close ∧
  encode .construct = 0x00000001#32 ∧ encode .configure = 0x00000002#32 ∧
  encode .transfer = 0x00000003#32 ∧ encode .close = 0x00000004#32

/-- R80, R86: decoding and encoding agree in both directions over all 2^32 words, and a word decodes exactly when its
upper 24 bits are 0 and its low byte is 1 to 4. -/
def Obligations.DecodeEncodeAgree : Prop :=
  (∀ i : Instr, decode (encode i) = .ok i) ∧
  (∀ (w : Word) (i : Instr), decode w = .ok i → w = encode i) ∧
  (∀ w : Word, (∃ i, decode w = .ok i) ↔
    w.extractLsb' 8 24 = 0#24 ∧ 1 ≤ (w.extractLsb' 0 8).toNat ∧ (w.extractLsb' 0 8).toNat ≤ 4) ∧
  (∀ (w : Word) (i : Instr), decodeTableWord 32 w.toNat = some i ↔ decode w = .ok i)

/-- A step runs the decoded command: with no reset, the tick of a write to `CMD` (address 0) is `exec` of the command
the word decodes to; an illegal word adds only `STATUS.REJ <- 1` to the engine's own updates. `withFetchWord` puts a
command's word where the very next step runs it (the model's own reading of a fetch, assumption log 9). -/
def Obligations.StepRunsDecodedCommand : Prop :=
  ∀ (s : State) (w : Word), s.rst = false → s.busOp = .wr 0x000 w →
    (∀ i, decode w = .ok i → step s = exec i s) ∧
    (∀ e, decode w = .error e → step s = .next { s.tick id with rej := true }) ∧
    (∀ i, step (s.withFetchWord 32 (encode i).toNat) = exec i (s.withFetchWord 32 (encode i).toNat))

/-- R85: outside the lifecycle states of its row, or with `SEQ != IDLE`, a command is refused and the tick is the
engine's own with `STATUS.REJ <- 1`; inside them it clears `STATUS.REJ`. -/
def Obligations.CommandAcceptance : Prop :=
  ∀ (s : State) (i : Instr),
    (¬ (s.seq = .idle ∧
        ((i = .construct ∧ s.lc = .closed) ∨
         (i = .configure ∧ (s.lc = .opened ∨ s.lc = .ready ∨ s.lc = .desync)) ∨
         (i = .transfer ∧ s.lc = .ready) ∨
         (i = .close ∧ (s.lc = .opened ∨ s.lc = .ready ∨ s.lc = .failed ∨ s.lc = .desync)))) →
      exec i s = .next { s.tick id with rej := true }) ∧
    (s.seq = .idle ∧
        ((i = .construct ∧ s.lc = .closed) ∨
         (i = .configure ∧ (s.lc = .opened ∨ s.lc = .ready ∨ s.lc = .desync)) ∨
         (i = .transfer ∧ s.lc = .ready) ∨
         (i = .close ∧ (s.lc = .opened ∨ s.lc = .ready ∨ s.lc = .failed ∨ s.lc = .desync))) →
      ∃ t, exec i s = .next t ∧ t.rej = false)

/-! ### The host bus (10_state.md R13 to R22, 20_memory.md R51, R56 to R60) -/

/-- R51: a read has no side effect: beside the tick without the read, only `h_rdata` differs, and it carries a value
of the state of the tick. -/
def Obligations.ReadHasNoSideEffect : Prop :=
  ∀ (s : State) (a : Addr), s.busOp = .rd a →
    ∃ u, step s.silent = .next u ∧ step s = .next { u with rdata := some (s.busRead a) }

/-- R58, R13 to R23: what a read returns at every mapped address but `STATUS` and `ERR`, bit by bit; R56, R58: a
misaligned or unmapped address reads 0. -/
def Obligations.ReadValues : Prop :=
  ∀ s : State,
    s.busRead 0x000 = 0 ∧
    s.busRead 0x00C = s.pins.ss ++ s.pins.sclk ++ s.pins.miso ++ s.pins.mosi ∧
    (∀ k, (s.busRead 0x010).getLsbD k = (decide (k = 0) && s.mode.cpha || decide (k = 1) && s.mode.cpol)) ∧
    s.busRead 0x014 = s.speed ∧ s.busRead 0x018 = s.params.fSys ∧
    (s.busRead 0x01C).extractLsb' 0 7 = s.xfer.byteCount ∧ (s.busRead 0x01C).getLsbD 7 = false ∧
    (s.busRead 0x01C).getLsbD 8 = s.xfer.lsbTx ∧ (s.busRead 0x01C).getLsbD 9 = s.xfer.lsbRx ∧
    (s.busRead 0x01C).extractLsb' 10 6 = 0#6 ∧ (s.busRead 0x01C).extractLsb' 16 10 = s.xfer.errClk ∧
    (s.busRead 0x01C).extractLsb' 26 6 = 0#6 ∧
    (s.busRead 0x020).toNat = s.rxLen.toNat ∧
    s.busRead 0x024 = s.tSysclk ∧ s.busRead 0x028 = s.tDiv ∧ s.busRead 0x02C = s.tBitdiv ∧
    (∀ j, j < 64 → (s.busRead (BitVec.ofNat 12 (0x100 + 4 * j))).toNat = (s.txByte j).toNat) ∧
    (∀ j, j < 64 → (s.busRead (BitVec.ofNat 12 (0x200 + 4 * j))).toNat = (s.rxByte j).toNat) ∧
    (∀ a : Addr, a.toNat % 4 ≠ 0 ∨ (0x030 ≤ a.toNat ∧ a.toNat < 0x100) ∨ 0x300 ≤ a.toNat → s.busRead a = 0)

/-- R20, R21: every bit of `STATUS`, with `BUSY` exactly when `SEQ != IDLE`, and the code in `ERR`. -/
def Obligations.StatusAndErrWords : Prop :=
  ∀ s : State,
    (s.busRead 0x004).extractLsb' 0 3 =
      (match s.lc with
       | .closed => 0#3 | .opened => 1#3 | .ready => 2#3 | .failed => 3#3 | .desync => 4#3) ∧
    (s.busRead 0x004).getLsbD 3 = false ∧
    (s.busRead 0x004).extractLsb' 4 2 =
      (match s.seq with | .idle => 0#2 | .armed => 1#2 | .running => 2#2 | .done => 3#2) ∧
    (s.busRead 0x004).extractLsb' 6 2 = 0#2 ∧
    ((s.busRead 0x004).getLsbD 8 = true ↔ s.seq ≠ .idle) ∧
    (s.busRead 0x004).getLsbD 9 = s.rxValid ∧ (s.busRead 0x004).getLsbD 10 = s.rej ∧
    (s.busRead 0x004).getLsbD 11 = false ∧
    (s.busRead 0x004).extractLsb' 12 2 =
      (match s.dig.st with | .ready => 0#2 | .armed => 1#2 | .running => 2#2 | .done => 3#2) ∧
    (s.busRead 0x004).getLsbD 14 = s.gen.running ∧
    (s.busRead 0x004).extractLsb' 15 17 = 0#17 ∧
    (s.busRead 0x008).toNat =
      (match s.err with
       | .none => 0 | .configuration => 1 | .capacity => 2 | .timeout => 3 | .driver => 4)

/-- R59, R13 to R17: an accepted write to a data register (`PINS`, `MODE`, `SPEED` in `CLOSED`; `XFER` and the entries
of `TXBUF` with `SEQ = IDLE`, in any `LC`) stores its fields, drops the other bits, clears `STATUS.REJ` and changes
nothing else beside the tick without the write. -/
def Obligations.WriteStoresRegister : Prop :=
  ∀ (s : State) (d : Word), s.rst = false →
    (s.lc = .closed → s.busOp = .wr 0x00C d → ∃ u, step s.silent = .next u ∧
      step s = .next
        { u with
          pins :=
            { mosi := d.extractLsb' 0 8, miso := d.extractLsb' 8 8, sclk := d.extractLsb' 16 8,
              ss := d.extractLsb' 24 8 },
          rej := false }) ∧
    (s.lc = .closed → s.busOp = .wr 0x010 d → ∃ u, step s.silent = .next u ∧
      step s = .next { u with mode := { cpha := d.getLsbD 0, cpol := d.getLsbD 1 }, rej := false }) ∧
    (s.lc = .closed → s.busOp = .wr 0x014 d → ∃ u, step s.silent = .next u ∧
      step s = .next { u with speed := d, rej := false }) ∧
    (s.seq = .idle → s.busOp = .wr 0x01C d → ∃ u, step s.silent = .next u ∧
      step s = .next
        { u with
          xfer :=
            { byteCount := d.extractLsb' 0 7, lsbTx := d.getLsbD 8, lsbRx := d.getLsbD 9,
              errClk := d.extractLsb' 16 10 },
          rej := false }) ∧
    (∀ j, j < 64 → s.seq = .idle → s.busOp = .wr (BitVec.ofNat 12 (0x100 + 4 * j)) d →
      ∃ u t, step s.silent = .next u ∧ step s = .next t ∧ t = { u with txbuf := t.txbuf, rej := false } ∧
        t.txByte j = d.extractLsb' 0 8 ∧ ∀ i, i ≠ j → t.txByte i = s.txByte i)

/-- R274: every host write sets `STATUS.REJ`, to 1 if refused and to 0 if accepted (R58, R59, R85), a refused write
does nothing else, and reads and idle ticks leave it alone. -/
def Obligations.RejFollowsEveryWrite : Prop :=
  ∀ s : State, s.rst = false →
    (∀ a d, s.busOp = .wr a d →
      (¬ ((a = 0x000 ∧ ∃ i, decode d = .ok i ∧ s.accepts i = true) ∨
          ((a = 0x00C ∨ a = 0x010 ∨ a = 0x014) ∧ s.lc = .closed) ∨
          ((a = 0x01C ∨ (0x100 ≤ a.toNat ∧ a.toNat < 0x200 ∧ a.toNat % 4 = 0)) ∧ s.seq = .idle)) →
        ∃ u, step s.silent = .next u ∧ step s = .next { u with rej := true }) ∧
      ((a = 0x000 ∧ ∃ i, decode d = .ok i ∧ s.accepts i = true) ∨
          ((a = 0x00C ∨ a = 0x010 ∨ a = 0x014) ∧ s.lc = .closed) ∨
          ((a = 0x01C ∨ (0x100 ≤ a.toNat ∧ a.toNat < 0x200 ∧ a.toNat % 4 = 0)) ∧ s.seq = .idle) →
        ∃ t, step s = .next t ∧ t.rej = false)) ∧
    ((∀ a d, s.busOp ≠ .wr a d) → ∃ t, step s = .next t ∧ t.rej = s.rej)

/-- R59, R321: while a transfer is in flight every host write is refused. -/
def Obligations.BusyRefusesEveryWrite : Prop :=
  ∀ (s : State) (a : Addr) (d : Word), s.Inv → s.rst = false → s.seq ≠ .idle → s.busOp = .wr a d →
    ∃ u, step s.silent = .next u ∧ step s = .next { u with rej := true }

/-! ### CONSTRUCT and CLOSE (40_lifecycle_commands.md) -/

/-- R101: a CONSTRUCT with four distinct indices in 0..15 and no driver failure opens the device; nothing else
changes but what every tick changes. -/
def Obligations.ConstructOpens : Prop :=
  ∀ s : State, s.Inv → s.lc = .closed →
    s.pins.mosi.toNat ≤ 15 → s.pins.miso.toNat ≤ 15 → s.pins.sclk.toNat ≤ 15 → s.pins.ss.toNat ≤ 15 →
    s.pins.mosi ≠ s.pins.miso → s.pins.mosi ≠ s.pins.sclk → s.pins.mosi ≠ s.pins.ss →
    s.pins.miso ≠ s.pins.sclk → s.pins.miso ≠ s.pins.ss → s.pins.sclk ≠ s.pins.ss →
    s.driverFault = false →
    exec .construct s = .next { s.restTick with lc := .opened, err := .none, rej := false }

/-- R101, R102: an index above 15, any of the six collisions, or a driver failure makes CONSTRUCT fail with
ConfigurationError; `LC` stays `CLOSED`. -/
def Obligations.ConstructFails : Prop :=
  ∀ s : State, s.Inv → s.lc = .closed →
    (15 < s.pins.mosi.toNat ∨ 15 < s.pins.miso.toNat ∨ 15 < s.pins.sclk.toNat ∨ 15 < s.pins.ss.toNat ∨
     s.pins.mosi = s.pins.miso ∨ s.pins.mosi = s.pins.sclk ∨ s.pins.mosi = s.pins.ss ∨
     s.pins.miso = s.pins.sclk ∨ s.pins.miso = s.pins.ss ∨ s.pins.sclk = s.pins.ss ∨
     s.driverFault = true) →
    exec .construct s = .next { s.restTick with err := .configuration, rej := false }

/-- R105: an accepted CLOSE. `PINS`, `MODE`, `SPEED`, `XFER` and `TXBUF` keep their values and become writable again,
`PAT`, `SMP` and `RXBUF` hold no value the spec fixes, and no pin is driven from the next tick on. In `CLOSED` and
with a transfer in flight CLOSE is refused. -/
def Obligations.CloseReleases : Prop :=
  ∀ s : State,
    (s.seq = .idle → s.lc ≠ .closed →
      ∃ t, exec .close s = .next t ∧
        t.lc = .closed ∧ t.seq = .idle ∧ t.err = .none ∧ t.rej = false ∧ t.rxValid = false ∧ t.rxLen = 0 ∧
        t.tSysclk = 0 ∧ t.tDiv = 0 ∧ t.tBitdiv = 0 ∧ t.latch = Latches.reset ∧ t.tcnt = 0 ∧
        t.gen = Generator.reset ∧ t.dig = Digitizer.resetKeeping s.pinLevels ∧ t.ioFree = false ∧
        t.pins = s.pins ∧ t.mode = s.mode ∧ t.speed = s.speed ∧ t.xfer = s.xfer ∧ t.txbuf = s.txbuf ∧
        t.params = s.params ∧ t.pat = [] ∧ t.smp = [] ∧ t.rxbuf = [] ∧ t.dioOe = 0 ∧ t.dioOut = 0 ∧
        (∀ r, r = .pins ∨ r = .mode ∨ r = .speed ∨ r = .xfer ∨ (∃ j, r = .txbuf j) → t.writable r = true) ∧
        t.busRead 0x004 = 0) ∧
    (s.lc = .closed ∨ s.seq ≠ .idle → exec .close s = .next { s.tick id with rej := true })

/-- R100: `LC` changes only as the table says. -/
def Obligations.LifecycleTable : Prop :=
  ∀ s t : State, s.Inv → step s = .next t → t.lc ≠ s.lc →
    (s.rst = true ∧ t.lc = .closed) ∨
    (s.lc = .closed ∧ t.lc = .opened ∧ s.busOp = .wr 0x000 1 ∧ t.err = .none) ∨
    ((s.lc = .opened ∨ s.lc = .desync) ∧ t.lc = .ready ∧ s.busOp = .wr 0x000 2 ∧ t.err = .none) ∨
    ((s.lc = .opened ∨ s.lc = .ready ∨ s.lc = .desync) ∧ t.lc = .failed ∧ s.busOp = .wr 0x000 2 ∧
      t.err = .configuration) ∨
    (s.lc = .ready ∧ t.lc = .desync ∧ (s.seq ≠ .idle ∨ s.busOp = .wr 0x000 3) ∧
      (t.err = .timeout ∨ t.err = .driver)) ∨
    (t.lc = .closed ∧ s.busOp = .wr 0x000 4 ∧ t.err = .none)

/-- R103, R329: while an instance exists, `PINS`, `MODE` and `SPEED` cannot change. -/
def Obligations.ConstructionRegistersFixed : Prop :=
  ∀ s t : State, s.rst = false → s.lc ≠ .closed → step s = .next t →
    t.pins = s.pins ∧ t.mode = s.mode ∧ t.speed = s.speed

/-! ### CONFIGURE (41_configure.md) -/

/-- R120, R122 to R124: a CONFIGURE that passes its checks latches `F_SYS`, computes `D` and `B` exactly, and makes
the engine `READY`. -/
def Obligations.ConfigureSetsTiming : Prop :=
  ∀ s : State, s.seq = .idle → (s.lc = .opened ∨ s.lc = .ready ∨ s.lc = .desync) →
    s.speed ≠ 0 → 1 ≤ s.params.fSys.toNat / (2 * s.speed.toNat) → s.driverFault = false →
    ∃ t, exec .configure s = .next t ∧ t.lc = .ready ∧ t.err = .none ∧ t.rej = false ∧ t.seq = .idle ∧
      t.tSysclk = s.params.fSys ∧ t.tDiv.toNat = s.params.fSys.toNat / (2 * s.speed.toNat) ∧
      t.tBitdiv.toNat = 2 * (s.params.fSys.toNat / (2 * s.speed.toNat))

/-- The frame of CONFIGURE, whether it succeeds or fails (R120, R312): the operand registers, `TXBUF`, the latches,
`TCNT` and `RXVALID` are unchanged, and so are `RXLEN` and `RXBUF` unless they are unspecified already (R120, decision
D32). That a driver failure keeps them too is the model's reading, against the last sentence of R278 (assumption log
13). -/
def Obligations.ConfigureFrame : Prop :=
  ∀ s : State, s.seq = .idle → (s.lc = .opened ∨ s.lc = .ready ∨ s.lc = .desync) →
    ∃ t, exec .configure s = .next t ∧
      t.params = s.params ∧ t.pins = s.pins ∧ t.mode = s.mode ∧ t.speed = s.speed ∧ t.xfer = s.xfer ∧
      t.txbuf = s.txbuf ∧ t.latch = s.latch ∧ t.tcnt = s.tcnt ∧ t.rxValid = s.rxValid ∧ t.seq = s.seq ∧
      t.rxFree = s.rxFree ∧ (s.rxFree = false → t.rxLen = s.rxLen ∧ t.rxbuf = s.rxbuf)

/-- R121, R126, R127, R128: the registers of the three output channels after a successful CONFIGURE, the generator
stopped with its counters at 0. -/
def Obligations.ConfigureProgramsChannels : Prop :=
  ∀ s : State, s.seq = .idle → (s.lc = .opened ∨ s.lc = .ready ∨ s.lc = .desync) →
    s.speed ≠ 0 → 1 ≤ s.params.fSys.toNat / (2 * s.speed.toNat) → s.driverFault = false →
    ∃ t, exec .configure s = .next t ∧
      t.gen.running = false ∧ t.gen.runLen = 0 ∧ t.gen.rt = 0 ∧
      t.gen.ss =
        { en := true, pin := s.pins.ss.setWidth 4, idle := true, dtype := .pulse, initLvl := false, lowCnt := 1,
          highCnt := 0, div := 1, divInit := 1, patLen := 0, dcnt := 0, pcnt := 0, lvl := false, idx := 0 } ∧
      t.gen.sclk =
        { en := true, pin := s.pins.sclk.setWidth 4, idle := s.mode.cpol, dtype := .pulse,
          initLvl := s.mode.cpol, lowCnt := 1, highCnt := 1, div := s.params.fSys.toNat / (2 * s.speed.toNat),
          divInit := s.params.fSys.toNat / (2 * s.speed.toNat), patLen := 0, dcnt := 0, pcnt := 0, lvl := false,
          idx := 0 } ∧
      t.gen.mosi =
        { en := true, pin := s.pins.mosi.setWidth 4, idle := false, dtype := .custom,
          div := 2 * (s.params.fSys.toNat / (2 * s.speed.toNat)),
          divInit := 2 * (s.params.fSys.toNat / (2 * s.speed.toNat)) +
            (if s.mode.cpha then s.params.fSys.toNat / (2 * s.speed.toNat) else 0),
          patLen := 0, lowCnt := 0, highCnt := 0, initLvl := false, dcnt := 0, pcnt := 0, lvl := false, idx := 0 }

/-- R129, R130: the digitizer registers after a successful CONFIGURE, with the CPOL/CPHA trigger selector's masks. -/
def Obligations.ConfigureSelectsTrigger : Prop :=
  ∀ s : State, s.seq = .idle → (s.lc = .opened ∨ s.lc = .ready ∨ s.lc = .desync) →
    s.speed ≠ 0 → 1 ≤ s.params.fSys.toNat / (2 * s.speed.toNat) → s.driverFault = false →
    ∃ t, exec .configure s = .next t ∧
      t.dig.singleShot = true ∧ t.dig.sdiv = s.params.fSys.toNat / (2 * s.speed.toNat) ∧ t.dig.fmt = 16 ∧
      t.dig.trigSrc = .outStart ∧ t.dig.trigPos = 0 ∧ t.dig.bufSize = 0 ∧ t.dig.st = .ready ∧
      t.dig.trigEn = false ∧ t.dig.scnt = 0 ∧ t.dig.widx = 0 ∧ t.dig.prev = s.pinLevels ∧
      t.dig.lowMask = 1#16 <<< s.pins.ss.toNat ∧ t.dig.highMask = 0 ∧
      (s.mode.cpol = s.mode.cpha → t.dig.riseMask = 1#16 <<< s.pins.sclk.toNat ∧ t.dig.fallMask = 0) ∧
      (s.mode.cpol ≠ s.mode.cpha → t.dig.riseMask = 0 ∧ t.dig.fallMask = 1#16 <<< s.pins.sclk.toNat)

/-- R125: `SPEED = 0`, `2*SPEED > F_SYS` or a driver failure makes CONFIGURE fail; the first two leave the digital I/O
in its reset state, the third leaves it unspecified; `FAILED` accepts nothing but CLOSE. -/
def Obligations.ConfigureFails : Prop :=
  ∀ s : State,
    (s.seq = .idle → (s.lc = .opened ∨ s.lc = .ready ∨ s.lc = .desync) →
      s.speed = 0 ∨ s.params.fSys.toNat < 2 * s.speed.toNat ∨ s.driverFault = true →
      ∃ t, exec .configure s = .next t ∧ t.err = .configuration ∧ t.lc = .failed ∧ t.rej = false ∧
        t.tSysclk = s.params.fSys ∧ t.tDiv = 0 ∧ t.tBitdiv = 0 ∧
        (s.speed = 0 ∨ s.params.fSys.toNat < 2 * s.speed.toNat →
          t.gen = Generator.reset ∧ t.dig = Digitizer.resetKeeping s.pinLevels ∧ t.ioFree = false ∧ t.dioOe = 0) ∧
        (¬ (s.speed = 0 ∨ s.params.fSys.toNat < 2 * s.speed.toNat) → t.ioFree = true)) ∧
    (s.lc = .failed → ∀ i, s.accepts i = true → i = .close)

/-- R132: a CONFIGURE in `READY` without a driver failure reproduces the same timing, the same channel and digitizer
registers, and the same pins. -/
def Obligations.ConfigureIdempotent : Prop :=
  ∀ s : State, s.Inv → s.lc = .ready → s.seq = .idle → s.driverFault = false →
    ∃ t, exec .configure s = .next t ∧ t.lc = .ready ∧ t.err = .none ∧
      t.tSysclk = s.tSysclk ∧ t.tDiv = s.tDiv ∧ t.tBitdiv = s.tBitdiv ∧
      t.gen.ss.programmedAs s.gen.ss ∧ t.gen.sclk.programmedAs s.gen.sclk ∧ t.gen.mosi.programmedAs s.gen.mosi ∧
      t.dig.programmedAs s.dig ∧ t.dioOe = s.dioOe ∧ t.dioOut = s.dioOut

/-- R133: the divider never grows with the speed, and is at least 1 exactly for speeds 1 to `F_SYS div 2`. R134: SCLK
has period `B = 2*D` ticks, its frequency `F_SYS / (2*D)` is never below the requested speed, and equals it only when
`2*SPEED` divides `F_SYS`. -/
def Obligations.ClockDivider : Prop :=
  (∀ f s1 s2 : Word, 1 ≤ s1.toNat → s1.toNat ≤ s2.toNat → dividerOf f s2 ≤ dividerOf f s1) ∧
  (∀ f sp : Word, 1 ≤ dividerOf f sp ↔ 1 ≤ sp.toNat ∧ sp.toNat ≤ f.toNat / 2) ∧
  (∀ f sp : Word, 1 ≤ sp.toNat → 1 ≤ dividerOf f sp →
    sp.toNat * (2 * dividerOf f sp) ≤ f.toNat ∧
    (sp.toNat * (2 * dividerOf f sp) = f.toNat ↔ 2 * sp.toNat ∣ f.toNat)) ∧
  (∀ (cpol : Bool) (D t : Nat), 1 ≤ D → sclkLevel cpol D (t + 2 * D) = sclkLevel cpol D t ∧
    sclkLevel cpol D (t + D) = !sclkLevel cpol D t)

/-- R131: a configured engine whose generator is stopped drives its three output pins at their idle levels (SS HIGH,
SCLK at CPOL, MOSI LOW) and no other pin, and so does the state a successful CONFIGURE leaves. -/
def Obligations.IdleLevels : Prop :=
  ∀ s : State, s.Inv →
    (s.lc = .ready → s.gen.running = false →
      s.pinLevels.getLsbD s.pins.ss.toNat = true ∧ s.pinLevels.getLsbD s.pins.sclk.toNat = s.mode.cpol ∧
      s.pinLevels.getLsbD s.pins.mosi.toNat = false ∧
      ∀ p, s.dioOe.getLsbD p =
        decide (p = s.pins.ss.toNat ∨ p = s.pins.sclk.toNat ∨ p = s.pins.mosi.toNat)) ∧
    (∀ t, s.seq = .idle → (s.lc = .opened ∨ s.lc = .ready ∨ s.lc = .desync) →
      exec .configure s = .next t → t.lc = .ready →
      t.pinLevels.getLsbD s.pins.ss.toNat = true ∧ t.pinLevels.getLsbD s.pins.sclk.toNat = s.mode.cpol ∧
      t.pinLevels.getLsbD s.pins.mosi.toNat = false)

/-! ### TRANSFER, the command tick (42_transfer_sequencer.md R150 to R162) -/

/-- R151, R272: a request that violates the capacity invariant records CapacityError and changes nothing else, whatever
`fault_in` is. -/
def Obligations.TransferCapacityError : Prop :=
  ∀ s : State, s.lc = .ready → s.seq = .idle →
    s.xfer.byteCount.toNat = 0 ∨ 63 < s.xfer.byteCount.toNat ∨
      1024 ≤ 2 * (8 * s.xfer.byteCount.toNat + s.xfer.errClk.toNat) + 2 →
    exec .transfer s = .next { s.tick id with err := .capacity, rej := false }

/-- R157: a driver failure in the tick of a TRANSFER that passes its capacity check. -/
def Obligations.TransferDriverFailure : Prop :=
  ∀ s : State, s.lc = .ready → s.seq = .idle → 1 ≤ s.xfer.byteCount.toNat → s.xfer.byteCount.toNat ≤ 63 →
    2 * (8 * s.xfer.byteCount.toNat + s.xfer.errClk.toNat) + 2 < 1024 → s.driverFault = true →
    ∃ t, exec .transfer s = .next t ∧ t.err = .driver ∧ t.lc = .desync ∧ t.seq = .idle ∧ t.rxValid = false ∧
      t.rej = false ∧ t.ioFree = true ∧ t.rxFree = true ∧
      s.KeepsRegisters t

/-- R153 to R156, R159, R162: a TRANSFER that passes both checks latches its numbers, withdraws the previous result,
programs the run length and the sample count, and arms the digitizer; the generator stays stopped. -/
def Obligations.TransferArms : Prop :=
  ∀ s : State, s.Inv → s.lc = .ready → s.seq = .idle → 1 ≤ s.xfer.byteCount.toNat → s.xfer.byteCount.toNat ≤ 63 →
    2 * (8 * s.xfer.byteCount.toNat + s.xfer.errClk.toNat) + 2 < 1024 → s.driverFault = false →
    ∃ t, exec .transfer s = .next t ∧ t.rej = false ∧ t.err = .none ∧ t.lc = .ready ∧ t.seq = .armed ∧
      t.rxValid = false ∧ t.rxFree = true ∧
      t.latch.n = s.xfer.byteCount.toNat ∧ t.latch.e = s.xfer.errClk.toNat ∧
      t.latch.nBits = 8 * s.xfer.byteCount.toNat + s.xfer.errClk.toNat ∧
      t.latch.nSamp = 2 * t.latch.nBits + 2 ∧ t.latch.lsbRx = s.xfer.lsbRx ∧
      t.gen.runLen = 2 * t.latch.nBits * s.tDiv.toNat + (49 * s.tDiv.toNat + 49) / 50 ∧
      t.latch.deadline = t.gen.runLen + 4 * s.tDiv.toNat ∧
      8 ≤ t.latch.nBits ∧ t.latch.nBits ≤ 510 ∧ 18 ≤ t.latch.nSamp ∧ t.latch.nSamp ≤ 1022 ∧
      t.dig =
        { s.dig with
          prev := s.pinLevels, bufSize := t.latch.nSamp, trigPos := t.latch.nSamp, st := .armed, trigEn := false,
          widx := 0, scnt := 0 } ∧
      t.smp = s.smp ∧ t.gen.running = false ∧ t.gen.rt = s.gen.rt ∧
      t.gen.ss = s.gen.ss ∧ t.gen.sclk = s.gen.sclk ∧ t.gen.mosi = { s.gen.mosi with patLen := t.latch.nBits } ∧
      s.KeepsRegisters t ∧ t.tcnt = s.tcnt

/-- R160, R161: the pattern of the request: bit `i` of programmed word `j` at `PAT[8*j + i]`, the byte itself with
`LSBTX = 1` and its reversal with `LSBTX = 0`; 0 at the `errorClocks` positions; `TXBUF` as it was. -/
def Obligations.TransferLoadsPattern : Prop :=
  ∀ s : State, s.lc = .ready → s.seq = .idle → s.ioFree = false → s.overCapacity = false → s.driverFault = false →
    ∃ t, exec .transfer s = .next t ∧
      (∀ j i, j < s.xfer.byteCount.toNat → i < 8 →
        t.patBit (8 * j + i) = (s.txByte j).getLsbD (if s.xfer.lsbTx then i else 7 - i)) ∧
      (∀ k, 8 * s.xfer.byteCount.toNat ≤ k → k < 8 * s.xfer.byteCount.toNat + s.xfer.errClk.toNat →
        t.patBit k = false) ∧
      t.gen.mosi.patLen = 8 * s.xfer.byteCount.toNat + s.xfer.errClk.toNat ∧ t.txbuf = s.txbuf

/-! ### The sequencer after the command tick (42_transfer_sequencer.md R163 to R172) -/

/-- R163, R192: START. The registers and the latches keep their values. -/
def Obligations.StartTick : Prop :=
  ∀ s : State, s.Inv → s.rst = false → s.seq = .armed → s.driverFault = false →
    ∃ t, step s = .next t ∧ t.seq = .running ∧ t.tcnt = 0 ∧ t.lc = .ready ∧ t.err = .none ∧
      s.KeepsRegisters t ∧ t.latch = s.latch ∧
      t.dig = { s.dig with trigEn := true, prev := s.pinLevels } ∧ t.smp = s.smp ∧
      t.gen =
        { ss := { s.gen.ss with dcnt := s.gen.ss.divInit, lvl := s.gen.ss.initLvl,
                                pcnt := if s.gen.ss.initLvl then s.gen.ss.highCnt else s.gen.ss.lowCnt },
          sclk := { s.gen.sclk with dcnt := s.gen.sclk.divInit, lvl := s.gen.sclk.initLvl,
                                    pcnt := if s.gen.sclk.initLvl then s.gen.sclk.highCnt else s.gen.sclk.lowCnt },
          mosi := { s.gen.mosi with dcnt := s.gen.mosi.divInit, idx := 0 },
          runLen := s.gen.runLen, rt := 0, running := true }

/-- R62: the generator starts only in a tick in which the digitizer is already armed and waiting. -/
def Obligations.ArmedBeforeStart : Prop :=
  ∀ s t : State, s.Inv → step s = .next t → s.gen.running = false → t.gen.running = true → t.ioFree = false →
    s.seq = .armed ∧ s.dig.st = .armed ∧ t.dig.st = .armed

/-- R164, R166: a tick of a running transfer that is no poll, or polls before the deadline without reading `DONE`,
only counts. The registers and the latches keep their values. -/
def Obligations.RunningTickCounts : Prop :=
  ∀ s : State, s.Inv → s.rst = false → s.seq = .running → s.driverFault = false →
    ¬ (0 < s.tcnt ∧ s.tcnt % s.params.pollTicks.toNat = 0) ∨
      ((s.dig.st ≠ .done ∨ s.withheld = true) ∧ s.tcnt < s.latch.deadline) →
    ∃ t, step s = .next t ∧ t.seq = .running ∧ t.tcnt = s.tcnt + 1 ∧ t.lc = .ready ∧ t.err = .none ∧
      t.rxValid = false ∧ t.latch = s.latch ∧ s.KeepsRegisters t

/-- R251, R253, R254, R255, R170: a poll that reads `DONE` stores the `n` bytes packed from the MISO bit of the even
samples `0 .. 16*n - 2`, whatever `e` is, and offers them. The registers and the latches keep their values (R323). -/
def Obligations.PollCompletes : Prop :=
  ∀ s : State, s.Inv → s.rst = false → s.seq = .running → s.driverFault = false →
    0 < s.tcnt → s.tcnt % s.params.pollTicks.toNat = 0 → s.dig.st = .done → s.withheld = false →
    ∃ t, step s = .next t ∧ t.seq = .done ∧ t.rxValid = true ∧ t.err = .none ∧ t.lc = .ready ∧
      t.rxLen.toNat = s.latch.n ∧ t.dig.st = .done ∧ t.gen = s.gen ∧
      t.latch = s.latch ∧ s.KeepsRegisters t ∧
      ∀ j i, j < s.latch.n → i < 8 →
        (t.rxByte j).getLsbD (if s.latch.lsbRx then i else 7 - i) =
          (s.sample (2 * (8 * j + i))).getLsbD s.pins.miso.toNat

/-- R170: in the tick after completion the only update is `SEQ <- IDLE`; `fault_in` is not looked at. R61, R255: in a
tick at rest (`SEQ = IDLE`, no write, outside the unspecified condition) only `DIG.PREV` follows the pins and the inputs
are used up, so a result stays as it is; while `RXLEN` and `RXBUF` are unspecified they alone may change too. -/
def Obligations.DoneAndRestTicks : Prop :=
  ∀ s : State, s.Inv → s.rst = false → (∀ a d, s.busOp ≠ .wr a d) →
    (s.seq = .done → step s = .next { s.restTick with seq := .idle }) ∧
    (s.seq = .idle → s.ioFree = false → s.rxFree = false → step s = .next s.restTick) ∧
    (s.seq = .idle → s.ioFree = false →
      ∃ t, step s = .next t ∧ t = { s.restTick with rxLen := t.rxLen, rxbuf := t.rxbuf })

/-- R168: a poll at or after the deadline that does not read `DONE` raises TimeoutError. The registers and the latches
keep their values (R278, R323; for the latches assumption log 14). -/
def Obligations.PollTimesOut : Prop :=
  ∀ s : State, s.Inv → s.rst = false → s.seq = .running → s.driverFault = false →
    0 < s.tcnt → s.tcnt % s.params.pollTicks.toNat = 0 → (s.dig.st ≠ .done ∨ s.withheld = true) →
    s.latch.deadline ≤ s.tcnt →
    ∃ t, step s = .next t ∧ t.err = .timeout ∧ t.lc = .desync ∧ t.seq = .idle ∧ t.rxValid = false ∧
      t.ioFree = true ∧ t.rxFree = true ∧ t.latch = s.latch ∧ s.KeepsRegisters t

/-- R169: `fault_in[0]` in any tick with `SEQ` `ARMED` or `RUNNING` raises DriverError, before completion and before
timeout. -/
def Obligations.DriverErrorInFlight : Prop :=
  ∀ s : State, s.Inv → s.rst = false → (s.seq = .armed ∨ s.seq = .running) → s.driverFault = true →
    ∃ t, step s = .next t ∧ t.err = .driver ∧ t.lc = .desync ∧ t.seq = .idle ∧ t.rxValid = false ∧
      t.ioFree = true ∧ t.rxFree = true ∧
      s.KeepsRegisters t

/-- R172, R228, R273: TimeoutError only through `fault_in[1]`, exactly at the first poll tick at or after the deadline,
and no transfer lasts beyond that tick: at or after its deadline a running transfer of the invariant has a digitizer
that is `DONE`, so a tick that records TimeoutError has completion withheld. -/
def Obligations.NoFalseTimeout : Prop :=
  ∀ s : State, s.Inv → s.seq = .running →
    (s.latch.deadline ≤ s.tcnt → s.dig.st = .done) ∧
    s.tcnt ≤ lastPollTick s.params.pollTicks.toNat s.latch.deadline ∧
    lastPollTick s.params.pollTicks.toNat s.latch.deadline ≤ s.latch.deadline + s.params.pollTicks.toNat - 1 ∧
    (∀ t, step s = .next t → t.err = .timeout →
      s.withheld = true ∧ s.tcnt = lastPollTick s.params.pollTicks.toNat s.latch.deadline) ∧
    (∀ t, step s = .next t → s.tcnt = lastPollTick s.params.pollTicks.toNat s.latch.deadline → t.seq ≠ .running)

/-- R170: `BUSY` always clears, whatever the host and the environment do, within the last poll tick and three more. -/
def Obligations.BusyAlwaysClears : Prop :=
  ∀ s : State, s.Inv →
    ∃ k, k ≤ lastPollTick s.params.pollTicks.toNat s.latch.deadline + 3 ∧ (s.after k).seq = .idle

/-- R171, R335, R174: the timeline of a fault-free transfer: one tick `ARMED`, `RUNNING` from START to the poll `tp`,
`DONE` at `tp + 1` with the `n` bytes offered, `IDLE` at `tp + 2`, which is `a + 4 + tp`. -/
def Obligations.TransferTimeline : Prop :=
  ∀ s : State, s.Inv → s.startsTransfer = true → Throughout State.quiet (s.reqPollTick + 4) s = true →
    (s.after 1).seq = .armed ∧
    (∀ t, t ≤ s.reqPollTick → (s.atTick t).seq = .running ∧ (s.atTick t).tcnt = t) ∧
    (s.atTick (s.reqPollTick + 1)).seq = .done ∧ (s.atTick (s.reqPollTick + 1)).rxValid = true ∧
    (s.atTick (s.reqPollTick + 2)).seq = .idle ∧ (s.after (4 + s.reqPollTick)).rxValid = true ∧
    (s.after (4 + s.reqPollTick)).err = .none ∧ (s.after (4 + s.reqPollTick)).lc = .ready ∧
    (s.after (4 + s.reqPollTick)).rxLen.toNat = s.reqBytes

/-! ### The pins and the generator (20_memory.md R52, R53; 43_waveform_generator.md) -/

/-- R191: the level a channel presents. R52, R53: outside the unspecified condition a pin that an enabled channel
drives shows that channel's level and every other pin shows `dio_in`; the snapshot is these 16 levels. -/
def Obligations.PinLevels : Prop :=
  (∀ (s : State) (c : Channel),
    (s.gen.running = false → s.chOut c = c.idle) ∧
    (s.gen.running = true → c.dtype = .pulse → s.chOut c = c.lvl) ∧
    (s.gen.running = true → c.dtype = .custom → c.idx < c.patLen → s.chOut c = s.patBit c.idx) ∧
    (s.gen.running = true → c.dtype = .custom → c.patLen ≤ c.idx → s.chOut c = false)) ∧
  (∀ s : State, s.Inv → s.ioFree = false →
    (∀ c, c = s.gen.ss ∨ c = s.gen.sclk ∨ c = s.gen.mosi → c.en = true →
      s.dioOe.getLsbD c.pin.toNat = true ∧ s.dioOut.getLsbD c.pin.toNat = s.chOut c ∧
      s.pinLevels.getLsbD c.pin.toNat = s.chOut c) ∧
    (∀ p, p < 16 → (∀ c, c = s.gen.ss ∨ c = s.gen.sclk ∨ c = s.gen.mosi → ¬ (c.en = true ∧ c.pin.toNat = p)) →
      s.dioOe.getLsbD p = false ∧ s.dioOut.getLsbD p = false ∧ s.pinLevels.getLsbD p = s.ext.getLsbD p))

/-- R52, R278: the MISO pin of an instance is never driven, in the unspecified condition included, and a snapshot shows
the environment's level there. -/
def Obligations.MisoNeverDriven : Prop :=
  ∀ s : State, s.Inv → s.lc ≠ .closed →
    s.dioOe.getLsbD s.pins.miso.toNat = false ∧
    s.pinLevels.getLsbD s.pins.miso.toNat = s.ext.getLsbD s.pins.miso.toNat ∧
    ∀ p, p ≠ s.pins.mosi.toNat → p ≠ s.pins.sclk.toNat → p ≠ s.pins.ss.toNat → s.dioOe.getLsbD p = false

/-- R328: what the environment puts on a driven pin is ignored: two environments that agree on the pins that are not
driven give the same step. -/
def Obligations.DrivenPinsIgnoreTheEnvironment : Prop :=
  ∀ (s : State) (e e' : EnvTick) (rest : List EnvTick), s.env = e :: rest → e'.rst = e.rst → e'.fault = e.fault →
    (∀ p, s.dioOe.getLsbD p = false → e'.ext.getLsbD p = e.ext.getLsbD p) →
    step { s with env := e' :: rest } = step s

/-- R193, R194, R196: one tick of a running generator, channel by channel. -/
def Obligations.GeneratorStep : Prop :=
  ∀ s : State, s.Inv → s.rst = false → s.seq = .running → s.driverFault = false → s.gen.running = true →
    ∃ t, step s = .next t ∧ t.gen.rt = s.gen.rt + 1 ∧ t.gen.runLen = s.gen.runLen ∧
      (t.gen.running = true ↔ s.gen.rt + 1 ≠ s.gen.runLen) ∧
      t.gen.ss.lvl = false ∧
      (1 < s.gen.sclk.dcnt → t.gen.sclk = { s.gen.sclk with dcnt := s.gen.sclk.dcnt - 1 }) ∧
      (s.gen.sclk.dcnt ≤ 1 →
        t.gen.sclk = { s.gen.sclk with dcnt := s.gen.sclk.div, lvl := !s.gen.sclk.lvl, pcnt := 1 }) ∧
      (1 < s.gen.mosi.dcnt → t.gen.mosi = { s.gen.mosi with dcnt := s.gen.mosi.dcnt - 1 }) ∧
      (s.gen.mosi.dcnt ≤ 1 →
        t.gen.mosi = { s.gen.mosi with dcnt := s.gen.mosi.div, idx := s.gen.mosi.idx + 1 })

/-- R197, R198, R199: the closed forms of SS, SCLK and MOSI over a whole fault-free transfer, from the command tick on:
idle before START, the waveform for `0 <= t < R`, idle again from `R` until the transfer is over. -/
def Obligations.WaveformClosedForms : Prop :=
  ∀ s : State, s.Inv → s.startsTransfer = true →
    (∀ k, k ≤ 1 → Throughout State.quiet k s = true →
      (s.after k).pinLevels.getLsbD s.pins.ss.toNat = true ∧
      (s.after k).pinLevels.getLsbD s.pins.sclk.toNat = s.mode.cpol ∧
      (s.after k).pinLevels.getLsbD s.pins.mosi.toNat = false) ∧
    (∀ t, t ≤ s.reqPollTick + 2 → Throughout State.quiet (t + 2) s = true →
      (s.atTick t).gen.running = decide (t < runLength s.reqBits s.halfBit) ∧
      (s.atTick t).pinLevels.getLsbD s.pins.ss.toNat = decide (runLength s.reqBits s.halfBit ≤ t) ∧
      (s.atTick t).pinLevels.getLsbD s.pins.sclk.toNat =
        (if t < runLength s.reqBits s.halfBit then s.mode.cpol ^^ decide (t / s.halfBit % 2 = 1) else s.mode.cpol) ∧
      (s.atTick t).pinLevels.getLsbD s.pins.mosi.toNat =
        (if t < runLength s.reqBits s.halfBit then mosiLevel s.patternBit s.reqBits s.halfBit s.mode.phase t
         else false))

/-- R198, R199: within a run SCLK changes at exactly the ticks `m*D`, `m = 1 .. 2*N`, and rests at CPOL in the last tick
of the run; pattern bit `k` is on MOSI in the window `[(2*k + CPHA)*D, (2*k + 2 + CPHA)*D)`, bit 0 from 0 on. -/
def Obligations.EdgesAndWindows : Prop :=
  ∀ (cpol : Bool) (N D : Nat), 1 ≤ D →
    (∀ t, 1 ≤ t → (sclkLevel cpol D t ≠ sclkLevel cpol D (t - 1) ↔ D ∣ t)) ∧
    (∀ m, m * D < runLength N D ↔ m ≤ 2 * N) ∧
    sclkLevel cpol D (runLength N D - 1) = cpol ∧
    (∀ m, sclkLevel cpol D (m * D) = (cpol ^^ decide (m % 2 = 1))) ∧
    (∀ (phase t k : Nat),
      (patternIndex D phase t = k ↔ (k = 0 ∨ (2 * k + phase) * D ≤ t) ∧ t < (2 * k + 2 + phase) * D))

/-! ### The digitizer (44_digitizer_sampler.md) -/

/-- R222 under the masks of R130: the detector fires exactly when SS is LOW and SCLK has just risen (modes with
CPOL = CPHA) or just fallen (the others). -/
def Obligations.TriggerDetector : Prop :=
  ∀ s : State, s.Inv → s.lc = .ready →
    (s.dig.detects s.pinLevels = true ↔
      s.pinLevels.getLsbD s.pins.ss.toNat = false ∧
      (if s.mode.cpol = s.mode.cpha then
        s.dig.prev.getLsbD s.pins.sclk.toNat = false ∧ s.pinLevels.getLsbD s.pins.sclk.toNat = true
       else s.dig.prev.getLsbD s.pins.sclk.toNat = true ∧ s.pinLevels.getLsbD s.pins.sclk.toNat = false))

/-- R221, R223, R225 to R227: one tick of the digitizer of a running transfer, for each of its states. -/
def Obligations.DigitizerStep : Prop :=
  ∀ s t : State, s.Inv → s.rst = false → s.seq = .running → step s = .next t → t.seq = .running →
    t.dig.prev = s.pinLevels ∧
    (s.dig.st = .armed → s.dig.trigEn = true → s.dig.detects s.pinLevels = true →
      t.smp.read? 0 = some s.pinLevels ∧ t.dig.widx = 1 ∧ t.dig.scnt = s.dig.sdiv ∧ t.dig.st = .running) ∧
    (s.dig.st = .armed → s.dig.detects s.pinLevels = false →
      t.smp = s.smp ∧ t.dig = { s.dig with prev := s.pinLevels }) ∧
    (s.dig.st = .running → 1 < s.dig.scnt →
      t.smp = s.smp ∧ t.dig = { s.dig with prev := s.pinLevels, scnt := s.dig.scnt - 1 }) ∧
    (s.dig.st = .running → s.dig.scnt ≤ 1 →
      t.smp.read? s.dig.widx = some s.pinLevels ∧ (∀ i, i ≠ s.dig.widx → t.smp.read? i = s.smp.read? i) ∧
      t.dig.widx = s.dig.widx + 1 ∧ t.dig.scnt = s.dig.sdiv ∧
      (t.dig.st = .done ↔ s.dig.widx + 1 = s.dig.trigPos)) ∧
    (s.dig.st = .done → t.smp = s.smp ∧ t.dig = { s.dig with prev := s.pinLevels })

/-- R229, R230: the digitizer waits until `T = (1 + CPHA)*D`, sample `i` is the snapshot of tick `T + i*D`, and the
status is `DONE` from the tick after the last sample. -/
def Obligations.SampleTimes : Prop :=
  ∀ s : State, s.Inv → s.startsTransfer = true →
    ∀ t, t ≤ s.reqPollTick → Throughout State.quiet (t + 2) s = true →
      (s.atTick t).dig.st =
        (if t ≤ s.triggerTick then .armed
         else if t ≤ lastSampleTick s.reqBits s.mode.phase s.halfBit then .running else .done) ∧
      ∀ i, i < s.reqSamples → s.triggerTick + i * s.halfBit < t →
        (s.atTick t).smp.read? i = some (s.atTick (s.triggerTick + i * s.halfBit)).pinLevels

/-! ### The result (45_decimator_reconstructor.md) -/

/-- R252, R253, R254: after a fault-free transfer, bit `8*j + i` of the answer is the MISO level of the environment in
tick `(2*(8*j + i) + 1 + CPHA)*D`, the earliest bit in bit 0 (`LSBRX = 1`) or bit 7 (`LSBRX = 0`) of byte `j`. -/
def Obligations.DecodedBits : Prop :=
  ∀ s : State, s.Inv → s.startsTransfer = true → Throughout State.quiet (s.reqPollTick + 4) s = true →
    ∀ j i, j < s.reqBytes → i < 8 →
      ((s.after (4 + s.reqPollTick)).rxByte j).getLsbD (if s.xfer.lsbRx then i else 7 - i) =
        (s.atTick ((2 * (8 * j + i) + 1 + s.mode.phase) * s.halfBit)).ext.getLsbD s.pins.miso.toNat

/-- R256, R257: under loopback every payload byte comes back as it was when `LSBTX = LSBRX`, and reversed when they
differ, in all four modes and for every `D`. -/
def Obligations.LoopbackRoundTrip : Prop :=
  ∀ s : State, s.Inv → s.startsTransfer = true → Throughout State.quiet (s.reqPollTick + 4) s = true →
    Throughout State.loopback (s.reqPollTick + 4) s = true →
    ∀ j, j < s.reqBytes →
      (s.xfer.lsbTx = s.xfer.lsbRx → (s.after (4 + s.reqPollTick)).rxByte j = s.txByte j) ∧
      (s.xfer.lsbTx ≠ s.xfer.lsbRx → ∀ i, i < 8 →
        ((s.after (4 + s.reqPollTick)).rxByte j).getLsbD i = (s.txByte j).getLsbD (7 - i))

/-- R327: a loopback delayed by `δ <= D` ticks still round-trips; with `D < δ <= 2*D` decoded bit `k >= 1` is the
pattern bit before. -/
def Obligations.DelayTolerance : Prop :=
  ∀ (s : State) (δ : Nat), s.Inv → s.startsTransfer = true →
    Throughout State.quiet (s.reqPollTick + 4) s = true →
    (∀ k, k + δ < s.reqPollTick + 4 →
      (s.after (k + δ)).ext.getLsbD s.pins.miso.toNat = (s.after k).pinLevels.getLsbD s.pins.mosi.toNat) →
    (δ ≤ s.halfBit → s.xfer.lsbTx = s.xfer.lsbRx →
      ∀ j, j < s.reqBytes → (s.after (4 + s.reqPollTick)).rxByte j = s.txByte j) ∧
    (s.halfBit < δ → δ ≤ 2 * s.halfBit →
      ∀ j i, j < s.reqBytes → i < 8 → 1 ≤ 8 * j + i →
        ((s.after (4 + s.reqPollTick)).rxByte j).getLsbD (if s.xfer.lsbRx then i else 7 - i) =
          s.patternBit (8 * j + i - 1))

/-! ### Errors, the result flag, the unspecified condition (60_exceptions.md) -/

/-- R20, R275: `STATUS.RXVALID` rises only at a poll that completes, and falls only at reset, CLOSE, or a TRANSFER that
passes its capacity check. R255, R325: as long as it stays 1, `RXLEN` and the bytes it counts keep their values. That a
CONFIGURE which fails because of `fault_in[0]` neither clears it nor changes the bytes is the model's reading (R120 and
decision D32 against the last sentence of R278, assumption log 13). -/
def Obligations.RxValidRule : Prop :=
  ∀ s t : State, s.Inv → step s = .next t →
    (s.rxValid = false → t.rxValid = true →
      s.seq = .running ∧ t.seq = .done ∧ s.tcnt % s.params.pollTicks.toNat = 0 ∧ s.dig.st = .done) ∧
    (s.rxValid = true → t.rxValid = false →
      s.rst = true ∨ (s.busOp = .wr 0x000 4 ∧ s.accepts .close = true) ∨
      (s.busOp = .wr 0x000 3 ∧ s.accepts .transfer = true ∧ s.overCapacity = false)) ∧
    (s.rxValid = true → t.rxValid = true →
      t.rxLen = s.rxLen ∧ ∀ j, j < s.rxLen.toNat → t.rxByte j = s.rxByte j)

/-- R275, R280, R274: `ERR` changes only at reset, by an accepted command, or by an error of the transfer in flight. -/
def Obligations.ErrRule : Prop :=
  ∀ s t : State, s.Inv → step s = .next t → t.err ≠ s.err →
    s.rst = true ∨ (∃ i, s.busOp = .wr 0x000 (encode i) ∧ s.accepts i = true) ∨
    (s.seq = .armed ∧ t.err = .driver) ∨ (s.seq = .running ∧ (t.err = .driver ∨ t.err = .timeout))

/-- R276, R170: `fault_in` has no effect in a tick with `SEQ` `IDLE` or `DONE` in which no command is written. -/
def Obligations.FaultIgnoredAtRest : Prop :=
  ∀ (s : State) (e e' : EnvTick) (rest : List EnvTick), s.env = e :: rest → e'.rst = e.rst → e'.ext = e.ext →
    (s.seq = .idle ∨ s.seq = .done) → (∀ d, s.busOp ≠ .wr 0x000 d) →
    step { s with env := e' :: rest } = step s

/-- R278: in `DESYNC`, and in `FAILED` after a CONFIGURE that failed because of `fault_in[0]`, until a command is
accepted or reset, the items the rule names keep their values; `XFER` and `TXBUF` change only by host writes to them. In
`DESYNC` `RXVALID` is 0; that in `FAILED` it, `RXLEN` and `RXBUF` are those of before the CONFIGURE is the model's
reading (assumption log 13). -/
def Obligations.DesyncKeepsDefined : Prop :=
  ∀ s t : State, s.Inv → (s.lc = .desync ∨ (s.lc = .failed ∧ s.ioFree = true)) → s.rst = false → step s = .next t →
    (∀ i, s.accepts i = true → s.busOp ≠ .wr 0x000 (encode i)) →
    t.lc = s.lc ∧ t.seq = .idle ∧ t.err = s.err ∧ t.rxValid = s.rxValid ∧ t.ioFree = true ∧
    (s.lc = .desync → t.rxValid = false) ∧
    (s.rxFree = false → t.rxFree = false ∧ t.rxLen = s.rxLen ∧ t.rxbuf = s.rxbuf) ∧
    t.pins = s.pins ∧ t.mode = s.mode ∧ t.speed = s.speed ∧
    t.tSysclk = s.tSysclk ∧ t.tDiv = s.tDiv ∧ t.tBitdiv = s.tBitdiv ∧
    ((∀ d, s.busOp ≠ .wr 0x01C d) → t.xfer = s.xfer) ∧
    ((∀ a d, s.busOp = .wr a d → a.toNat < 0x100 ∨ 0x200 ≤ a.toNat) → t.txbuf = s.txbuf) ∧
    (∀ p, p ≠ s.pins.mosi.toNat → p ≠ s.pins.sclk.toNat → p ≠ s.pins.ss.toNat → t.dioOe.getLsbD p = false)

/-- R279: the unspecified condition ends only by reset, by an accepted CLOSE, or by an accepted CONFIGURE (in
`DESYNC`), and each of reset and CLOSE, and a CONFIGURE that raises no driver failure, ends it. -/
def Obligations.UnspecifiedConditionEnds : Prop :=
  ∀ s t : State, s.Inv → s.ioFree = true → step s = .next t →
    (t.ioFree = false →
      s.rst = true ∨ (s.busOp = .wr 0x000 4) ∨ (s.busOp = .wr 0x000 2 ∧ s.lc = .desync)) ∧
    (s.rst = true ∨ s.busOp = .wr 0x000 4 ∨
        (s.busOp = .wr 0x000 2 ∧ s.lc = .desync ∧ s.driverFault = false) →
      t.ioFree = false)

/-! ### Reset and the whole machine (10_state.md, 70_reset_and_hazards.md) -/

/-- R32: the state after reset, in which the buffers list no value; `DIG.PREV` is free in the first tick, and from the
second tick on it is the pin levels of the tick before. -/
def Obligations.ResetState : Prop :=
  State.reset.lc = .closed ∧ State.reset.seq = .idle ∧
  State.reset.pins = { mosi := 0, miso := 0, sclk := 0, ss := 0 } ∧
  State.reset.mode = { cpol := false, cpha := false } ∧ State.reset.speed = 0 ∧
  State.reset.xfer = { byteCount := 0, lsbTx := false, lsbRx := false, errClk := 0 } ∧
  State.reset.err = .none ∧ State.reset.rxValid = false ∧ State.reset.rej = false ∧ State.reset.rxLen = 0 ∧
  State.reset.tSysclk = 0 ∧ State.reset.tDiv = 0 ∧ State.reset.tBitdiv = 0 ∧
  (∀ c, c = State.reset.gen.ss ∨ c = State.reset.gen.sclk ∨ c = State.reset.gen.mosi →
    c = { en := false, pin := 0, idle := false, dtype := .pulse, div := 0, divInit := 0, lowCnt := 0, highCnt := 0,
          initLvl := false, patLen := 0, dcnt := 0, pcnt := 0, lvl := false, idx := 0 }) ∧
  State.reset.gen.runLen = 0 ∧ State.reset.gen.rt = 0 ∧ State.reset.gen.running = false ∧
  State.reset.dig =
    { singleShot := false, sdiv := 0, fmt := 0, trigSrc := .none, lowMask := 0, highMask := 0, riseMask := 0,
      fallMask := 0, trigPos := 0, bufSize := 0, st := .ready, trigEn := false, scnt := 0, widx := 0,
      prev := State.reset.dig.prev } ∧
  State.reset.latch = { n := 0, e := 0, nBits := 0, nSamp := 0, lsbRx := false, deadline := 0 } ∧
  State.reset.txbuf = [] ∧ State.reset.pat = [] ∧ State.reset.smp = [] ∧ State.reset.rxbuf = [] ∧
  State.reset.tcnt = 0 ∧ State.reset.dioOe = 0 ∧ State.reset.dioOut = 0 ∧
  (∀ t, step State.reset = .next t → t.dig.prev = State.reset.pinLevels)

/-- R310, R277: in a tick with `rst = 1` everything takes its reset value, whatever the state, the host operation and
the other inputs; a read returns the value of the present state, and a write is neither accepted nor refused. -/
def Obligations.ResetTick : Prop :=
  ∀ s : State, s.rst = true →
    ∃ t, step s = .next t ∧
      t = { State.reset with
            params := s.params, dig := t.dig, fresh := t.fresh, born := t.born, host := t.host, env := t.env,
            rdata := t.rdata } ∧
      t.dig = { State.reset.dig with prev := t.dig.prev } ∧ t.rej = false ∧ t.dioOe = 0 ∧ t.env = s.env.tail ∧
      (∀ a, s.busOp = .rd a → t.rdata = some (s.busRead a))

/-- The invariant holds at reset, and its counters fit their widths. -/
def Obligations.InvReset : Prop := State.reset.Inv ∧ State.reset.Fits

/-- Every step keeps the invariant, from every state that meets it, whatever the host and the environment do. -/
def Obligations.InvStep : Prop := ∀ s t : State, s.Inv → step s = .next t → t.Inv

/-- R158: no counter outgrows the width the spec gives it. -/
def Obligations.CountersFit : Prop := ∀ s t : State, s.Inv → s.Fits → step s = .next t → t.Fits

/-- R51, R3, R2: the machine never stops: every state has a next state, in which the inputs and the host's line of the
tick are used up and the parameters are as they were. -/
def Obligations.EveryTickHasANextState : Prop :=
  ∀ s : State, ∃ t, step s = .next t ∧ t.env = s.env.tail ∧ t.host = s.hostRest ∧ t.params = s.params

end Statements
end

