-- ==== Sys2Proof/Laws/Bits.lean ====
section
/-! SUPPORT. The bytes built from single bits: which bit of `packBits`, `rev8` and `packByte` is which. -/

namespace Sys2Proof.Machine

open Sys2Proof

theorem packBits_table : ∀ b0 b1 b2 b3 b4 b5 b6 b7 : Bool, ∀ i : Fin 8,
    ((0 + bitVal 8 b0 <<< 0 + bitVal 8 b1 <<< 1 + bitVal 8 b2 <<< 2 + bitVal 8 b3 <<< 3 + bitVal 8 b4 <<< 4 +
        bitVal 8 b5 <<< 5 + bitVal 8 b6 <<< 6 + bitVal 8 b7 <<< 7 : Byte).getLsbD i =
      [b0, b1, b2, b3, b4, b5, b6, b7].getD i false) ∧
    ((0 + bitVal 8 b0 <<< 7 + bitVal 8 b1 <<< 6 + bitVal 8 b2 <<< 5 + bitVal 8 b3 <<< 4 + bitVal 8 b4 <<< 3 +
        bitVal 8 b5 <<< 2 + bitVal 8 b6 <<< 1 + bitVal 8 b7 <<< 0 : Byte).getLsbD (7 - i) =
      [b0, b1, b2, b3, b4, b5, b6, b7].getD i false) := by
  decide +kernel

/-- Packing in rising order puts bit `i` at position `i`. -/
theorem packBits_rising (f : Nat → Bool) {i : Nat} (h : i < 8) : (packBits f (fun k => k)).getLsbD i = f i := by
  have := (packBits_table (f 0) (f 1) (f 2) (f 3) (f 4) (f 5) (f 6) (f 7) ⟨i, h⟩).1
  refine Eq.trans this ?_
  interval_cases i <;> rfl

/-- Packing in falling order puts bit `i` at position `7 - i`. -/
theorem packBits_falling (f : Nat → Bool) {i : Nat} (h : i < 8) :
    (packBits f (fun k => 7 - k)).getLsbD (7 - i) = f i := by
  have := (packBits_table (f 0) (f 1) (f 2) (f 3) (f 4) (f 5) (f 6) (f 7) ⟨i, h⟩).2
  refine Eq.trans this ?_
  interval_cases i <;> rfl

/-- `rev8(v)[i] = v[7-i]` (00_scope.md 5.2). -/
theorem rev8_getLsbD (v : Byte) {i : Nat} (h : i < 8) : (rev8 v).getLsbD i = v.getLsbD (7 - i) :=
  packBits_rising _ h

/-- Where decoded bit `8*j + i` stands in byte `j` (45_decimator_reconstructor.md R253). -/
theorem packByte_getLsbD (lsbRx : Bool) (d : Nat → Bool) (j : Nat) {i : Nat} (h : i < 8) :
    (packByte lsbRx d j).getLsbD (if lsbRx then i else 7 - i) = d (8 * j + i) := by
  cases lsbRx
  · exact packBits_falling (fun k => d (8 * j + k)) h
  · exact packBits_rising (fun k => d (8 * j + k)) h

end Sys2Proof.Machine
end

