-- ==== Sys2Proof/Laws/State.lean ====
section
/-! SUPPORT. One lemma per field per state update, each true by rfl. -/

namespace Sys2Proof.Machine

open Sys2Proof

/-! ### `State.refuse`: sets `STATUS.REJ` and nothing else -/

@[simp] theorem State.refuse_params (s : State) : (s.refuse).params = s.params := rfl
@[simp] theorem State.refuse_lc (s : State) : (s.refuse).lc = s.lc := rfl
@[simp] theorem State.refuse_seq (s : State) : (s.refuse).seq = s.seq := rfl
@[simp] theorem State.refuse_pins (s : State) : (s.refuse).pins = s.pins := rfl
@[simp] theorem State.refuse_mode (s : State) : (s.refuse).mode = s.mode := rfl
@[simp] theorem State.refuse_speed (s : State) : (s.refuse).speed = s.speed := rfl
@[simp] theorem State.refuse_xfer (s : State) : (s.refuse).xfer = s.xfer := rfl
@[simp] theorem State.refuse_txbuf (s : State) : (s.refuse).txbuf = s.txbuf := rfl
@[simp] theorem State.refuse_err (s : State) : (s.refuse).err = s.err := rfl
@[simp] theorem State.refuse_rxValid (s : State) : (s.refuse).rxValid = s.rxValid := rfl
@[simp] theorem State.refuse_rej (s : State) : (s.refuse).rej = true := rfl
@[simp] theorem State.refuse_rxLen (s : State) : (s.refuse).rxLen = s.rxLen := rfl
@[simp] theorem State.refuse_rxbuf (s : State) : (s.refuse).rxbuf = s.rxbuf := rfl
@[simp] theorem State.refuse_tSysclk (s : State) : (s.refuse).tSysclk = s.tSysclk := rfl
@[simp] theorem State.refuse_tDiv (s : State) : (s.refuse).tDiv = s.tDiv := rfl
@[simp] theorem State.refuse_tBitdiv (s : State) : (s.refuse).tBitdiv = s.tBitdiv := rfl
@[simp] theorem State.refuse_gen (s : State) : (s.refuse).gen = s.gen := rfl
@[simp] theorem State.refuse_pat (s : State) : (s.refuse).pat = s.pat := rfl
@[simp] theorem State.refuse_dig (s : State) : (s.refuse).dig = s.dig := rfl
@[simp] theorem State.refuse_smp (s : State) : (s.refuse).smp = s.smp := rfl
@[simp] theorem State.refuse_latch (s : State) : (s.refuse).latch = s.latch := rfl
@[simp] theorem State.refuse_tcnt (s : State) : (s.refuse).tcnt = s.tcnt := rfl
@[simp] theorem State.refuse_ioFree (s : State) : (s.refuse).ioFree = s.ioFree := rfl
@[simp] theorem State.refuse_rxFree (s : State) : (s.refuse).rxFree = s.rxFree := rfl
@[simp] theorem State.refuse_fresh (s : State) : (s.refuse).fresh = s.fresh := rfl
@[simp] theorem State.refuse_born (s : State) : (s.refuse).born = s.born := rfl
@[simp] theorem State.refuse_host (s : State) : (s.refuse).host = s.host := rfl
@[simp] theorem State.refuse_env (s : State) : (s.refuse).env = s.env := rfl
@[simp] theorem State.refuse_rdata (s : State) : (s.refuse).rdata = s.rdata := rfl

/-! ### `State.accept`: clears `STATUS.REJ` and nothing else -/

@[simp] theorem State.accept_params (s : State) : (s.accept).params = s.params := rfl
@[simp] theorem State.accept_lc (s : State) : (s.accept).lc = s.lc := rfl
@[simp] theorem State.accept_seq (s : State) : (s.accept).seq = s.seq := rfl
@[simp] theorem State.accept_pins (s : State) : (s.accept).pins = s.pins := rfl
@[simp] theorem State.accept_mode (s : State) : (s.accept).mode = s.mode := rfl
@[simp] theorem State.accept_speed (s : State) : (s.accept).speed = s.speed := rfl
@[simp] theorem State.accept_xfer (s : State) : (s.accept).xfer = s.xfer := rfl
@[simp] theorem State.accept_txbuf (s : State) : (s.accept).txbuf = s.txbuf := rfl
@[simp] theorem State.accept_err (s : State) : (s.accept).err = s.err := rfl
@[simp] theorem State.accept_rxValid (s : State) : (s.accept).rxValid = s.rxValid := rfl
@[simp] theorem State.accept_rej (s : State) : (s.accept).rej = false := rfl
@[simp] theorem State.accept_rxLen (s : State) : (s.accept).rxLen = s.rxLen := rfl
@[simp] theorem State.accept_rxbuf (s : State) : (s.accept).rxbuf = s.rxbuf := rfl
@[simp] theorem State.accept_tSysclk (s : State) : (s.accept).tSysclk = s.tSysclk := rfl
@[simp] theorem State.accept_tDiv (s : State) : (s.accept).tDiv = s.tDiv := rfl
@[simp] theorem State.accept_tBitdiv (s : State) : (s.accept).tBitdiv = s.tBitdiv := rfl
@[simp] theorem State.accept_gen (s : State) : (s.accept).gen = s.gen := rfl
@[simp] theorem State.accept_pat (s : State) : (s.accept).pat = s.pat := rfl
@[simp] theorem State.accept_dig (s : State) : (s.accept).dig = s.dig := rfl
@[simp] theorem State.accept_smp (s : State) : (s.accept).smp = s.smp := rfl
@[simp] theorem State.accept_latch (s : State) : (s.accept).latch = s.latch := rfl
@[simp] theorem State.accept_tcnt (s : State) : (s.accept).tcnt = s.tcnt := rfl
@[simp] theorem State.accept_ioFree (s : State) : (s.accept).ioFree = s.ioFree := rfl
@[simp] theorem State.accept_rxFree (s : State) : (s.accept).rxFree = s.rxFree := rfl
@[simp] theorem State.accept_fresh (s : State) : (s.accept).fresh = s.fresh := rfl
@[simp] theorem State.accept_born (s : State) : (s.accept).born = s.born := rfl
@[simp] theorem State.accept_host (s : State) : (s.accept).host = s.host := rfl
@[simp] theorem State.accept_env (s : State) : (s.accept).env = s.env := rfl
@[simp] theorem State.accept_rdata (s : State) : (s.accept).rdata = s.rdata := rfl

/-! ### `State.succeed`: clears `ERR` and nothing else -/

@[simp] theorem State.succeed_params (s : State) : (s.succeed).params = s.params := rfl
@[simp] theorem State.succeed_lc (s : State) : (s.succeed).lc = s.lc := rfl
@[simp] theorem State.succeed_seq (s : State) : (s.succeed).seq = s.seq := rfl
@[simp] theorem State.succeed_pins (s : State) : (s.succeed).pins = s.pins := rfl
@[simp] theorem State.succeed_mode (s : State) : (s.succeed).mode = s.mode := rfl
@[simp] theorem State.succeed_speed (s : State) : (s.succeed).speed = s.speed := rfl
@[simp] theorem State.succeed_xfer (s : State) : (s.succeed).xfer = s.xfer := rfl
@[simp] theorem State.succeed_txbuf (s : State) : (s.succeed).txbuf = s.txbuf := rfl
@[simp] theorem State.succeed_err (s : State) : (s.succeed).err = ErrCode.none := rfl
@[simp] theorem State.succeed_rxValid (s : State) : (s.succeed).rxValid = s.rxValid := rfl
@[simp] theorem State.succeed_rej (s : State) : (s.succeed).rej = s.rej := rfl
@[simp] theorem State.succeed_rxLen (s : State) : (s.succeed).rxLen = s.rxLen := rfl
@[simp] theorem State.succeed_rxbuf (s : State) : (s.succeed).rxbuf = s.rxbuf := rfl
@[simp] theorem State.succeed_tSysclk (s : State) : (s.succeed).tSysclk = s.tSysclk := rfl
@[simp] theorem State.succeed_tDiv (s : State) : (s.succeed).tDiv = s.tDiv := rfl
@[simp] theorem State.succeed_tBitdiv (s : State) : (s.succeed).tBitdiv = s.tBitdiv := rfl
@[simp] theorem State.succeed_gen (s : State) : (s.succeed).gen = s.gen := rfl
@[simp] theorem State.succeed_pat (s : State) : (s.succeed).pat = s.pat := rfl
@[simp] theorem State.succeed_dig (s : State) : (s.succeed).dig = s.dig := rfl
@[simp] theorem State.succeed_smp (s : State) : (s.succeed).smp = s.smp := rfl
@[simp] theorem State.succeed_latch (s : State) : (s.succeed).latch = s.latch := rfl
@[simp] theorem State.succeed_tcnt (s : State) : (s.succeed).tcnt = s.tcnt := rfl
@[simp] theorem State.succeed_ioFree (s : State) : (s.succeed).ioFree = s.ioFree := rfl
@[simp] theorem State.succeed_rxFree (s : State) : (s.succeed).rxFree = s.rxFree := rfl
@[simp] theorem State.succeed_fresh (s : State) : (s.succeed).fresh = s.fresh := rfl
@[simp] theorem State.succeed_born (s : State) : (s.succeed).born = s.born := rfl
@[simp] theorem State.succeed_host (s : State) : (s.succeed).host = s.host := rfl
@[simp] theorem State.succeed_env (s : State) : (s.succeed).env = s.env := rfl
@[simp] theorem State.succeed_rdata (s : State) : (s.succeed).rdata = s.rdata := rfl

/-! ### `State.indeterminate`: sets the mark of the unspecified condition -/

@[simp] theorem State.indeterminate_params (s : State) : (s.indeterminate).params = s.params := rfl
@[simp] theorem State.indeterminate_lc (s : State) : (s.indeterminate).lc = s.lc := rfl
@[simp] theorem State.indeterminate_seq (s : State) : (s.indeterminate).seq = s.seq := rfl
@[simp] theorem State.indeterminate_pins (s : State) : (s.indeterminate).pins = s.pins := rfl
@[simp] theorem State.indeterminate_mode (s : State) : (s.indeterminate).mode = s.mode := rfl
@[simp] theorem State.indeterminate_speed (s : State) : (s.indeterminate).speed = s.speed := rfl
@[simp] theorem State.indeterminate_xfer (s : State) : (s.indeterminate).xfer = s.xfer := rfl
@[simp] theorem State.indeterminate_txbuf (s : State) : (s.indeterminate).txbuf = s.txbuf := rfl
@[simp] theorem State.indeterminate_err (s : State) : (s.indeterminate).err = s.err := rfl
@[simp] theorem State.indeterminate_rxValid (s : State) : (s.indeterminate).rxValid = s.rxValid := rfl
@[simp] theorem State.indeterminate_rej (s : State) : (s.indeterminate).rej = s.rej := rfl
@[simp] theorem State.indeterminate_rxLen (s : State) : (s.indeterminate).rxLen = s.rxLen := rfl
@[simp] theorem State.indeterminate_rxbuf (s : State) : (s.indeterminate).rxbuf = s.rxbuf := rfl
@[simp] theorem State.indeterminate_tSysclk (s : State) : (s.indeterminate).tSysclk = s.tSysclk := rfl
@[simp] theorem State.indeterminate_tDiv (s : State) : (s.indeterminate).tDiv = s.tDiv := rfl
@[simp] theorem State.indeterminate_tBitdiv (s : State) : (s.indeterminate).tBitdiv = s.tBitdiv := rfl
@[simp] theorem State.indeterminate_gen (s : State) : (s.indeterminate).gen = s.gen := rfl
@[simp] theorem State.indeterminate_pat (s : State) : (s.indeterminate).pat = s.pat := rfl
@[simp] theorem State.indeterminate_dig (s : State) : (s.indeterminate).dig = s.dig := rfl
@[simp] theorem State.indeterminate_smp (s : State) : (s.indeterminate).smp = s.smp := rfl
@[simp] theorem State.indeterminate_latch (s : State) : (s.indeterminate).latch = s.latch := rfl
@[simp] theorem State.indeterminate_tcnt (s : State) : (s.indeterminate).tcnt = s.tcnt := rfl
@[simp] theorem State.indeterminate_ioFree (s : State) : (s.indeterminate).ioFree = true := rfl
@[simp] theorem State.indeterminate_rxFree (s : State) : (s.indeterminate).rxFree = s.rxFree := rfl
@[simp] theorem State.indeterminate_fresh (s : State) : (s.indeterminate).fresh = s.fresh := rfl
@[simp] theorem State.indeterminate_born (s : State) : (s.indeterminate).born = s.born := rfl
@[simp] theorem State.indeterminate_host (s : State) : (s.indeterminate).host = s.host := rfl
@[simp] theorem State.indeterminate_env (s : State) : (s.indeterminate).env = s.env := rfl
@[simp] theorem State.indeterminate_rdata (s : State) : (s.indeterminate).rdata = s.rdata := rfl

/-! ### `State.raise`: the error entry -/

@[simp] theorem State.raise_params (e : ErrorEvent) (s : State) : (s.raise e).params = s.params := rfl
@[simp] theorem State.raise_lc (e : ErrorEvent) (s : State) : (s.raise e).lc = e.lifecycle s.lc := rfl
@[simp] theorem State.raise_seq (e : ErrorEvent) (s : State) : (s.raise e).seq = SeqState.idle := rfl
@[simp] theorem State.raise_pins (e : ErrorEvent) (s : State) : (s.raise e).pins = s.pins := rfl
@[simp] theorem State.raise_mode (e : ErrorEvent) (s : State) : (s.raise e).mode = s.mode := rfl
@[simp] theorem State.raise_speed (e : ErrorEvent) (s : State) : (s.raise e).speed = s.speed := rfl
@[simp] theorem State.raise_xfer (e : ErrorEvent) (s : State) : (s.raise e).xfer = s.xfer := rfl
@[simp] theorem State.raise_txbuf (e : ErrorEvent) (s : State) : (s.raise e).txbuf = s.txbuf := rfl
@[simp] theorem State.raise_err (e : ErrorEvent) (s : State) : (s.raise e).err = e.code := rfl
@[simp] theorem State.raise_rxValid (e : ErrorEvent) (s : State) : (s.raise e).rxValid = if e.losesSync then false else s.rxValid := rfl
@[simp] theorem State.raise_rej (e : ErrorEvent) (s : State) : (s.raise e).rej = s.rej := rfl
@[simp] theorem State.raise_rxLen (e : ErrorEvent) (s : State) : (s.raise e).rxLen = s.rxLen := rfl
@[simp] theorem State.raise_rxbuf (e : ErrorEvent) (s : State) : (s.raise e).rxbuf = s.rxbuf := rfl
@[simp] theorem State.raise_tSysclk (e : ErrorEvent) (s : State) : (s.raise e).tSysclk = s.tSysclk := rfl
@[simp] theorem State.raise_tDiv (e : ErrorEvent) (s : State) : (s.raise e).tDiv = s.tDiv := rfl
@[simp] theorem State.raise_tBitdiv (e : ErrorEvent) (s : State) : (s.raise e).tBitdiv = s.tBitdiv := rfl
@[simp] theorem State.raise_gen (e : ErrorEvent) (s : State) : (s.raise e).gen = s.gen := rfl
@[simp] theorem State.raise_pat (e : ErrorEvent) (s : State) : (s.raise e).pat = s.pat := rfl
@[simp] theorem State.raise_dig (e : ErrorEvent) (s : State) : (s.raise e).dig = s.dig := rfl
@[simp] theorem State.raise_smp (e : ErrorEvent) (s : State) : (s.raise e).smp = s.smp := rfl
@[simp] theorem State.raise_latch (e : ErrorEvent) (s : State) : (s.raise e).latch = s.latch := rfl
@[simp] theorem State.raise_tcnt (e : ErrorEvent) (s : State) : (s.raise e).tcnt = s.tcnt := rfl
@[simp] theorem State.raise_ioFree (e : ErrorEvent) (s : State) : (s.raise e).ioFree = (e.losesSync || s.ioFree) := rfl
@[simp] theorem State.raise_rxFree (e : ErrorEvent) (s : State) : (s.raise e).rxFree = (e.losesSync || s.rxFree) := rfl
@[simp] theorem State.raise_fresh (e : ErrorEvent) (s : State) : (s.raise e).fresh = s.fresh := rfl
@[simp] theorem State.raise_born (e : ErrorEvent) (s : State) : (s.raise e).born = s.born := rfl
@[simp] theorem State.raise_host (e : ErrorEvent) (s : State) : (s.raise e).host = s.host := rfl
@[simp] theorem State.raise_env (e : ErrorEvent) (s : State) : (s.raise e).env = s.env := rfl
@[simp] theorem State.raise_rdata (e : ErrorEvent) (s : State) : (s.raise e).rdata = s.rdata := rfl

/-! ### `State.resetDigitalIO`: the digital I/O and nothing else -/

@[simp] theorem State.resetDigitalIO_params (s : State) : (s.resetDigitalIO).params = s.params := rfl
@[simp] theorem State.resetDigitalIO_lc (s : State) : (s.resetDigitalIO).lc = s.lc := rfl
@[simp] theorem State.resetDigitalIO_seq (s : State) : (s.resetDigitalIO).seq = s.seq := rfl
@[simp] theorem State.resetDigitalIO_pins (s : State) : (s.resetDigitalIO).pins = s.pins := rfl
@[simp] theorem State.resetDigitalIO_mode (s : State) : (s.resetDigitalIO).mode = s.mode := rfl
@[simp] theorem State.resetDigitalIO_speed (s : State) : (s.resetDigitalIO).speed = s.speed := rfl
@[simp] theorem State.resetDigitalIO_xfer (s : State) : (s.resetDigitalIO).xfer = s.xfer := rfl
@[simp] theorem State.resetDigitalIO_txbuf (s : State) : (s.resetDigitalIO).txbuf = s.txbuf := rfl
@[simp] theorem State.resetDigitalIO_err (s : State) : (s.resetDigitalIO).err = s.err := rfl
@[simp] theorem State.resetDigitalIO_rxValid (s : State) : (s.resetDigitalIO).rxValid = s.rxValid := rfl
@[simp] theorem State.resetDigitalIO_rej (s : State) : (s.resetDigitalIO).rej = s.rej := rfl
@[simp] theorem State.resetDigitalIO_rxLen (s : State) : (s.resetDigitalIO).rxLen = s.rxLen := rfl
@[simp] theorem State.resetDigitalIO_rxbuf (s : State) : (s.resetDigitalIO).rxbuf = s.rxbuf := rfl
@[simp] theorem State.resetDigitalIO_tSysclk (s : State) : (s.resetDigitalIO).tSysclk = s.tSysclk := rfl
@[simp] theorem State.resetDigitalIO_tDiv (s : State) : (s.resetDigitalIO).tDiv = s.tDiv := rfl
@[simp] theorem State.resetDigitalIO_tBitdiv (s : State) : (s.resetDigitalIO).tBitdiv = s.tBitdiv := rfl
@[simp] theorem State.resetDigitalIO_gen (s : State) : (s.resetDigitalIO).gen = Generator.reset := rfl
@[simp] theorem State.resetDigitalIO_pat (s : State) : (s.resetDigitalIO).pat = s.pat := rfl
@[simp] theorem State.resetDigitalIO_dig (s : State) : (s.resetDigitalIO).dig = Digitizer.resetKeeping s.dig.prev := rfl
@[simp] theorem State.resetDigitalIO_smp (s : State) : (s.resetDigitalIO).smp = s.smp := rfl
@[simp] theorem State.resetDigitalIO_latch (s : State) : (s.resetDigitalIO).latch = s.latch := rfl
@[simp] theorem State.resetDigitalIO_tcnt (s : State) : (s.resetDigitalIO).tcnt = s.tcnt := rfl
@[simp] theorem State.resetDigitalIO_ioFree (s : State) : (s.resetDigitalIO).ioFree = false := rfl
@[simp] theorem State.resetDigitalIO_rxFree (s : State) : (s.resetDigitalIO).rxFree = s.rxFree := rfl
@[simp] theorem State.resetDigitalIO_fresh (s : State) : (s.resetDigitalIO).fresh = s.fresh := rfl
@[simp] theorem State.resetDigitalIO_born (s : State) : (s.resetDigitalIO).born = s.born := rfl
@[simp] theorem State.resetDigitalIO_host (s : State) : (s.resetDigitalIO).host = s.host := rfl
@[simp] theorem State.resetDigitalIO_env (s : State) : (s.resetDigitalIO).env = s.env := rfl
@[simp] theorem State.resetDigitalIO_rdata (s : State) : (s.resetDigitalIO).rdata = s.rdata := rfl

/-! ### `State.unspecify`: fresh free values for what is unspecified -/

@[simp] theorem State.unspecify_params (s : State) : (s.unspecify).params = s.params := rfl
@[simp] theorem State.unspecify_lc (s : State) : (s.unspecify).lc = s.lc := rfl
@[simp] theorem State.unspecify_seq (s : State) : (s.unspecify).seq = s.seq := rfl
@[simp] theorem State.unspecify_pins (s : State) : (s.unspecify).pins = s.pins := rfl
@[simp] theorem State.unspecify_mode (s : State) : (s.unspecify).mode = s.mode := rfl
@[simp] theorem State.unspecify_speed (s : State) : (s.unspecify).speed = s.speed := rfl
@[simp] theorem State.unspecify_xfer (s : State) : (s.unspecify).xfer = s.xfer := rfl
@[simp] theorem State.unspecify_txbuf (s : State) : (s.unspecify).txbuf = s.txbuf := rfl
@[simp] theorem State.unspecify_err (s : State) : (s.unspecify).err = s.err := rfl
@[simp] theorem State.unspecify_rxValid (s : State) : (s.unspecify).rxValid = s.rxValid := rfl
@[simp] theorem State.unspecify_rej (s : State) : (s.unspecify).rej = s.rej := rfl
@[simp] theorem State.unspecify_rxLen (s : State) : (s.unspecify).rxLen = if s.rxFree then Config.free .rxLen s.fresh 7 else s.rxLen := rfl
@[simp] theorem State.unspecify_rxbuf (s : State) : (s.unspecify).rxbuf = if s.rxFree then [] else s.rxbuf := rfl
@[simp] theorem State.unspecify_tSysclk (s : State) : (s.unspecify).tSysclk = s.tSysclk := rfl
@[simp] theorem State.unspecify_tDiv (s : State) : (s.unspecify).tDiv = s.tDiv := rfl
@[simp] theorem State.unspecify_tBitdiv (s : State) : (s.unspecify).tBitdiv = s.tBitdiv := rfl
@[simp] theorem State.unspecify_gen (s : State) : (s.unspecify).gen = if s.ioFree then Generator.free s.fresh else s.gen := rfl
@[simp] theorem State.unspecify_pat (s : State) : (s.unspecify).pat = if s.ioFree then [] else s.pat := rfl
@[simp] theorem State.unspecify_dig (s : State) : (s.unspecify).dig = if s.ioFree then Digitizer.free s.fresh else s.dig := rfl
@[simp] theorem State.unspecify_smp (s : State) : (s.unspecify).smp = if s.ioFree then [] else s.smp := rfl
@[simp] theorem State.unspecify_latch (s : State) : (s.unspecify).latch = s.latch := rfl
@[simp] theorem State.unspecify_tcnt (s : State) : (s.unspecify).tcnt = s.tcnt := rfl
@[simp] theorem State.unspecify_ioFree (s : State) : (s.unspecify).ioFree = s.ioFree := rfl
@[simp] theorem State.unspecify_rxFree (s : State) : (s.unspecify).rxFree = s.rxFree := rfl
@[simp] theorem State.unspecify_fresh (s : State) : (s.unspecify).fresh = s.fresh := rfl
@[simp] theorem State.unspecify_born (s : State) : (s.unspecify).born = s.born := rfl
@[simp] theorem State.unspecify_host (s : State) : (s.unspecify).host = s.host := rfl
@[simp] theorem State.unspecify_env (s : State) : (s.unspecify).env = s.env := rfl
@[simp] theorem State.unspecify_rdata (s : State) : (s.unspecify).rdata = s.rdata := rfl

/-! ### `State.start`: START -/

@[simp] theorem State.start_params (s : State) : (s.start).params = s.params := rfl
@[simp] theorem State.start_lc (s : State) : (s.start).lc = s.lc := rfl
@[simp] theorem State.start_seq (s : State) : (s.start).seq = SeqState.running := rfl
@[simp] theorem State.start_pins (s : State) : (s.start).pins = s.pins := rfl
@[simp] theorem State.start_mode (s : State) : (s.start).mode = s.mode := rfl
@[simp] theorem State.start_speed (s : State) : (s.start).speed = s.speed := rfl
@[simp] theorem State.start_xfer (s : State) : (s.start).xfer = s.xfer := rfl
@[simp] theorem State.start_txbuf (s : State) : (s.start).txbuf = s.txbuf := rfl
@[simp] theorem State.start_err (s : State) : (s.start).err = s.err := rfl
@[simp] theorem State.start_rxValid (s : State) : (s.start).rxValid = s.rxValid := rfl
@[simp] theorem State.start_rej (s : State) : (s.start).rej = s.rej := rfl
@[simp] theorem State.start_rxLen (s : State) : (s.start).rxLen = s.rxLen := rfl
@[simp] theorem State.start_rxbuf (s : State) : (s.start).rxbuf = s.rxbuf := rfl
@[simp] theorem State.start_tSysclk (s : State) : (s.start).tSysclk = s.tSysclk := rfl
@[simp] theorem State.start_tDiv (s : State) : (s.start).tDiv = s.tDiv := rfl
@[simp] theorem State.start_tBitdiv (s : State) : (s.start).tBitdiv = s.tBitdiv := rfl
@[simp] theorem State.start_gen (s : State) : (s.start).gen = s.gen.start := rfl
@[simp] theorem State.start_pat (s : State) : (s.start).pat = s.pat := rfl
@[simp] theorem State.start_dig (s : State) : (s.start).dig = { s.dig with trigEn := true } := rfl
@[simp] theorem State.start_smp (s : State) : (s.start).smp = s.smp := rfl
@[simp] theorem State.start_latch (s : State) : (s.start).latch = s.latch := rfl
@[simp] theorem State.start_tcnt (s : State) : (s.start).tcnt = 0 := rfl
@[simp] theorem State.start_ioFree (s : State) : (s.start).ioFree = s.ioFree := rfl
@[simp] theorem State.start_rxFree (s : State) : (s.start).rxFree = s.rxFree := rfl
@[simp] theorem State.start_fresh (s : State) : (s.start).fresh = s.fresh := rfl
@[simp] theorem State.start_born (s : State) : (s.start).born = s.born := rfl
@[simp] theorem State.start_host (s : State) : (s.start).host = s.host := rfl
@[simp] theorem State.start_env (s : State) : (s.start).env = s.env := rfl
@[simp] theorem State.start_rdata (s : State) : (s.start).rdata = s.rdata := rfl

/-! ### `State.complete`: the end of a transfer -/

@[simp] theorem State.complete_params (bytes : List Byte) (s : State) : (s.complete bytes).params = s.params := rfl
@[simp] theorem State.complete_lc (bytes : List Byte) (s : State) : (s.complete bytes).lc = s.lc := rfl
@[simp] theorem State.complete_seq (bytes : List Byte) (s : State) : (s.complete bytes).seq = SeqState.done := rfl
@[simp] theorem State.complete_pins (bytes : List Byte) (s : State) : (s.complete bytes).pins = s.pins := rfl
@[simp] theorem State.complete_mode (bytes : List Byte) (s : State) : (s.complete bytes).mode = s.mode := rfl
@[simp] theorem State.complete_speed (bytes : List Byte) (s : State) : (s.complete bytes).speed = s.speed := rfl
@[simp] theorem State.complete_xfer (bytes : List Byte) (s : State) : (s.complete bytes).xfer = s.xfer := rfl
@[simp] theorem State.complete_txbuf (bytes : List Byte) (s : State) : (s.complete bytes).txbuf = s.txbuf := rfl
@[simp] theorem State.complete_err (bytes : List Byte) (s : State) : (s.complete bytes).err = ErrCode.none := rfl
@[simp] theorem State.complete_rxValid (bytes : List Byte) (s : State) : (s.complete bytes).rxValid = true := rfl
@[simp] theorem State.complete_rej (bytes : List Byte) (s : State) : (s.complete bytes).rej = s.rej := rfl
@[simp] theorem State.complete_rxLen (bytes : List Byte) (s : State) : (s.complete bytes).rxLen = BitVec.ofNat 7 bytes.length := rfl
@[simp] theorem State.complete_rxbuf (bytes : List Byte) (s : State) : (s.complete bytes).rxbuf = Memory.ofList 0 bytes := rfl
@[simp] theorem State.complete_tSysclk (bytes : List Byte) (s : State) : (s.complete bytes).tSysclk = s.tSysclk := rfl
@[simp] theorem State.complete_tDiv (bytes : List Byte) (s : State) : (s.complete bytes).tDiv = s.tDiv := rfl
@[simp] theorem State.complete_tBitdiv (bytes : List Byte) (s : State) : (s.complete bytes).tBitdiv = s.tBitdiv := rfl
@[simp] theorem State.complete_gen (bytes : List Byte) (s : State) : (s.complete bytes).gen = s.gen := rfl
@[simp] theorem State.complete_pat (bytes : List Byte) (s : State) : (s.complete bytes).pat = [] := rfl
@[simp] theorem State.complete_dig (bytes : List Byte) (s : State) : (s.complete bytes).dig = s.dig := rfl
@[simp] theorem State.complete_smp (bytes : List Byte) (s : State) : (s.complete bytes).smp = [] := rfl
@[simp] theorem State.complete_latch (bytes : List Byte) (s : State) : (s.complete bytes).latch = s.latch := rfl
@[simp] theorem State.complete_tcnt (bytes : List Byte) (s : State) : (s.complete bytes).tcnt = s.tcnt := rfl
@[simp] theorem State.complete_ioFree (bytes : List Byte) (s : State) : (s.complete bytes).ioFree = s.ioFree := rfl
@[simp] theorem State.complete_rxFree (bytes : List Byte) (s : State) : (s.complete bytes).rxFree = false := rfl
@[simp] theorem State.complete_fresh (bytes : List Byte) (s : State) : (s.complete bytes).fresh = s.fresh := rfl
@[simp] theorem State.complete_born (bytes : List Byte) (s : State) : (s.complete bytes).born = s.born := rfl
@[simp] theorem State.complete_host (bytes : List Byte) (s : State) : (s.complete bytes).host = s.host := rfl
@[simp] theorem State.complete_env (bytes : List Byte) (s : State) : (s.complete bytes).env = s.env := rfl
@[simp] theorem State.complete_rdata (bytes : List Byte) (s : State) : (s.complete bytes).rdata = s.rdata := rfl

/-! ### `State.configureFails`: a failed CONFIGURE -/

@[simp] theorem State.configureFails_params (s : State) : (s.configureFails).params = s.params := rfl
@[simp] theorem State.configureFails_lc (s : State) : (s.configureFails).lc = Lifecycle.failed := rfl
@[simp] theorem State.configureFails_seq (s : State) : (s.configureFails).seq = SeqState.idle := rfl
@[simp] theorem State.configureFails_pins (s : State) : (s.configureFails).pins = s.pins := rfl
@[simp] theorem State.configureFails_mode (s : State) : (s.configureFails).mode = s.mode := rfl
@[simp] theorem State.configureFails_speed (s : State) : (s.configureFails).speed = s.speed := rfl
@[simp] theorem State.configureFails_xfer (s : State) : (s.configureFails).xfer = s.xfer := rfl
@[simp] theorem State.configureFails_txbuf (s : State) : (s.configureFails).txbuf = s.txbuf := rfl
@[simp] theorem State.configureFails_err (s : State) : (s.configureFails).err = ErrCode.configuration := rfl
@[simp] theorem State.configureFails_rxValid (s : State) : (s.configureFails).rxValid = s.rxValid := rfl
@[simp] theorem State.configureFails_rej (s : State) : (s.configureFails).rej = s.rej := rfl
@[simp] theorem State.configureFails_rxLen (s : State) : (s.configureFails).rxLen = s.rxLen := rfl
@[simp] theorem State.configureFails_rxbuf (s : State) : (s.configureFails).rxbuf = s.rxbuf := rfl
@[simp] theorem State.configureFails_tSysclk (s : State) : (s.configureFails).tSysclk = s.tSysclk := rfl
@[simp] theorem State.configureFails_tDiv (s : State) : (s.configureFails).tDiv = 0 := rfl
@[simp] theorem State.configureFails_tBitdiv (s : State) : (s.configureFails).tBitdiv = 0 := rfl
@[simp] theorem State.configureFails_gen (s : State) : (s.configureFails).gen = s.gen := rfl
@[simp] theorem State.configureFails_pat (s : State) : (s.configureFails).pat = s.pat := rfl
@[simp] theorem State.configureFails_dig (s : State) : (s.configureFails).dig = s.dig := rfl
@[simp] theorem State.configureFails_smp (s : State) : (s.configureFails).smp = s.smp := rfl
@[simp] theorem State.configureFails_latch (s : State) : (s.configureFails).latch = s.latch := rfl
@[simp] theorem State.configureFails_tcnt (s : State) : (s.configureFails).tcnt = s.tcnt := rfl
@[simp] theorem State.configureFails_ioFree (s : State) : (s.configureFails).ioFree = s.ioFree := rfl
@[simp] theorem State.configureFails_rxFree (s : State) : (s.configureFails).rxFree = s.rxFree := rfl
@[simp] theorem State.configureFails_fresh (s : State) : (s.configureFails).fresh = s.fresh := rfl
@[simp] theorem State.configureFails_born (s : State) : (s.configureFails).born = s.born := rfl
@[simp] theorem State.configureFails_host (s : State) : (s.configureFails).host = s.host := rfl
@[simp] theorem State.configureFails_env (s : State) : (s.configureFails).env = s.env := rfl
@[simp] theorem State.configureFails_rdata (s : State) : (s.configureFails).rdata = s.rdata := rfl

/-! ### `State.program`: a CONFIGURE that passes its checks -/

@[simp] theorem State.program_params (s : State) : (s.program).params = s.params := rfl
@[simp] theorem State.program_lc (s : State) : (s.program).lc = Lifecycle.ready := rfl
@[simp] theorem State.program_seq (s : State) : (s.program).seq = s.seq := rfl
@[simp] theorem State.program_pins (s : State) : (s.program).pins = s.pins := rfl
@[simp] theorem State.program_mode (s : State) : (s.program).mode = s.mode := rfl
@[simp] theorem State.program_speed (s : State) : (s.program).speed = s.speed := rfl
@[simp] theorem State.program_xfer (s : State) : (s.program).xfer = s.xfer := rfl
@[simp] theorem State.program_txbuf (s : State) : (s.program).txbuf = s.txbuf := rfl
@[simp] theorem State.program_err (s : State) : (s.program).err = ErrCode.none := rfl
@[simp] theorem State.program_rxValid (s : State) : (s.program).rxValid = s.rxValid := rfl
@[simp] theorem State.program_rej (s : State) : (s.program).rej = s.rej := rfl
@[simp] theorem State.program_rxLen (s : State) : (s.program).rxLen = s.rxLen := rfl
@[simp] theorem State.program_rxbuf (s : State) : (s.program).rxbuf = s.rxbuf := rfl
@[simp] theorem State.program_tSysclk (s : State) : (s.program).tSysclk = s.tSysclk := rfl
@[simp] theorem State.program_tDiv (s : State) : (s.program).tDiv = BitVec.ofNat 32 s.divider := rfl
@[simp] theorem State.program_tBitdiv (s : State) : (s.program).tBitdiv = BitVec.ofNat 32 (2 * s.divider) := rfl
@[simp] theorem State.program_gen (s : State) : (s.program).gen = { s.gen with ss := ssChannel s.pins, sclk := sclkChannel s.pins s.mode s.divider, mosi := mosiChannel s.pins s.mode s.divider } := rfl
@[simp] theorem State.program_pat (s : State) : (s.program).pat = s.pat := rfl
@[simp] theorem State.program_dig (s : State) : (s.program).dig = configuredDigitizer s.pins s.mode s.divider s.dig.prev := rfl
@[simp] theorem State.program_smp (s : State) : (s.program).smp = s.smp := rfl
@[simp] theorem State.program_latch (s : State) : (s.program).latch = s.latch := rfl
@[simp] theorem State.program_tcnt (s : State) : (s.program).tcnt = s.tcnt := rfl
@[simp] theorem State.program_ioFree (s : State) : (s.program).ioFree = s.ioFree := rfl
@[simp] theorem State.program_rxFree (s : State) : (s.program).rxFree = s.rxFree := rfl
@[simp] theorem State.program_fresh (s : State) : (s.program).fresh = s.fresh := rfl
@[simp] theorem State.program_born (s : State) : (s.program).born = s.born := rfl
@[simp] theorem State.program_host (s : State) : (s.program).host = s.host := rfl
@[simp] theorem State.program_env (s : State) : (s.program).env = s.env := rfl
@[simp] theorem State.program_rdata (s : State) : (s.program).rdata = s.rdata := rfl

/-! ### `State.close`: CLOSE -/

@[simp] theorem State.close_params (s : State) : (s.close).params = s.params := rfl
@[simp] theorem State.close_lc (s : State) : (s.close).lc = Lifecycle.closed := rfl
@[simp] theorem State.close_seq (s : State) : (s.close).seq = s.seq := rfl
@[simp] theorem State.close_pins (s : State) : (s.close).pins = s.pins := rfl
@[simp] theorem State.close_mode (s : State) : (s.close).mode = s.mode := rfl
@[simp] theorem State.close_speed (s : State) : (s.close).speed = s.speed := rfl
@[simp] theorem State.close_xfer (s : State) : (s.close).xfer = s.xfer := rfl
@[simp] theorem State.close_txbuf (s : State) : (s.close).txbuf = s.txbuf := rfl
@[simp] theorem State.close_err (s : State) : (s.close).err = ErrCode.none := rfl
@[simp] theorem State.close_rxValid (s : State) : (s.close).rxValid = false := rfl
@[simp] theorem State.close_rej (s : State) : (s.close).rej = s.rej := rfl
@[simp] theorem State.close_rxLen (s : State) : (s.close).rxLen = 0 := rfl
@[simp] theorem State.close_rxbuf (s : State) : (s.close).rxbuf = [] := rfl
@[simp] theorem State.close_tSysclk (s : State) : (s.close).tSysclk = 0 := rfl
@[simp] theorem State.close_tDiv (s : State) : (s.close).tDiv = 0 := rfl
@[simp] theorem State.close_tBitdiv (s : State) : (s.close).tBitdiv = 0 := rfl
@[simp] theorem State.close_gen (s : State) : (s.close).gen = Generator.reset := rfl
@[simp] theorem State.close_pat (s : State) : (s.close).pat = [] := rfl
@[simp] theorem State.close_dig (s : State) : (s.close).dig = Digitizer.resetKeeping s.dig.prev := rfl
@[simp] theorem State.close_smp (s : State) : (s.close).smp = [] := rfl
@[simp] theorem State.close_latch (s : State) : (s.close).latch = Latches.reset := rfl
@[simp] theorem State.close_tcnt (s : State) : (s.close).tcnt = 0 := rfl
@[simp] theorem State.close_ioFree (s : State) : (s.close).ioFree = false := rfl
@[simp] theorem State.close_rxFree (s : State) : (s.close).rxFree = false := rfl
@[simp] theorem State.close_fresh (s : State) : (s.close).fresh = s.fresh := rfl
@[simp] theorem State.close_born (s : State) : (s.close).born = s.born := rfl
@[simp] theorem State.close_host (s : State) : (s.close).host = s.host := rfl
@[simp] theorem State.close_env (s : State) : (s.close).env = s.env := rfl
@[simp] theorem State.close_rdata (s : State) : (s.close).rdata = s.rdata := rfl

/-! ### `State.load`: steps 2 to 7a of a TRANSFER -/

@[simp] theorem State.load_params (s : State) : (s.load).params = s.params := rfl
@[simp] theorem State.load_lc (s : State) : (s.load).lc = s.lc := rfl
@[simp] theorem State.load_seq (s : State) : (s.load).seq = SeqState.armed := rfl
@[simp] theorem State.load_pins (s : State) : (s.load).pins = s.pins := rfl
@[simp] theorem State.load_mode (s : State) : (s.load).mode = s.mode := rfl
@[simp] theorem State.load_speed (s : State) : (s.load).speed = s.speed := rfl
@[simp] theorem State.load_xfer (s : State) : (s.load).xfer = s.xfer := rfl
@[simp] theorem State.load_txbuf (s : State) : (s.load).txbuf = s.txbuf := rfl
@[simp] theorem State.load_err (s : State) : (s.load).err = ErrCode.none := rfl
@[simp] theorem State.load_rxValid (s : State) : (s.load).rxValid = false := rfl
@[simp] theorem State.load_rej (s : State) : (s.load).rej = s.rej := rfl
@[simp] theorem State.load_rxLen (s : State) : (s.load).rxLen = s.rxLen := rfl
@[simp] theorem State.load_rxbuf (s : State) : (s.load).rxbuf = s.rxbuf := rfl
@[simp] theorem State.load_tSysclk (s : State) : (s.load).tSysclk = s.tSysclk := rfl
@[simp] theorem State.load_tDiv (s : State) : (s.load).tDiv = s.tDiv := rfl
@[simp] theorem State.load_tBitdiv (s : State) : (s.load).tBitdiv = s.tBitdiv := rfl
@[simp] theorem State.load_gen (s : State) : (s.load).gen = { s.gen with runLen := runLength s.reqBits s.halfBit, mosi := { s.gen.mosi with patLen := s.reqBits } } := rfl
@[simp] theorem State.load_pat (s : State) : (s.load).pat = s.pattern := rfl
@[simp] theorem State.load_dig (s : State) : (s.load).dig = { s.dig.arm with bufSize := s.reqSamples, trigPos := s.reqSamples } := rfl
@[simp] theorem State.load_smp (s : State) : (s.load).smp = s.smp := rfl
@[simp] theorem State.load_latch (s : State) : (s.load).latch = { n := s.reqBytes, e := s.reqErrClk, nBits := s.reqBits, nSamp := s.reqSamples, lsbRx := s.xfer.lsbRx, deadline := deadlineOf (runLength s.reqBits s.halfBit) s.halfBit } := rfl
@[simp] theorem State.load_tcnt (s : State) : (s.load).tcnt = s.tcnt := rfl
@[simp] theorem State.load_ioFree (s : State) : (s.load).ioFree = s.ioFree := rfl
@[simp] theorem State.load_rxFree (s : State) : (s.load).rxFree = true := rfl
@[simp] theorem State.load_fresh (s : State) : (s.load).fresh = s.fresh := rfl
@[simp] theorem State.load_born (s : State) : (s.load).born = s.born := rfl
@[simp] theorem State.load_host (s : State) : (s.load).host = s.host := rfl
@[simp] theorem State.load_env (s : State) : (s.load).env = s.env := rfl
@[simp] theorem State.load_rdata (s : State) : (s.load).rdata = s.rdata := rfl

/-! ### `State.resetTick`: the tick with `rst = 1` -/

@[simp] theorem State.resetTick_params (s : State) : (s.resetTick).params = s.params := rfl
@[simp] theorem State.resetTick_lc (s : State) : (s.resetTick).lc = Lifecycle.closed := rfl
@[simp] theorem State.resetTick_seq (s : State) : (s.resetTick).seq = SeqState.idle := rfl
@[simp] theorem State.resetTick_pins (s : State) : (s.resetTick).pins = State.reset.pins := rfl
@[simp] theorem State.resetTick_mode (s : State) : (s.resetTick).mode = State.reset.mode := rfl
@[simp] theorem State.resetTick_speed (s : State) : (s.resetTick).speed = 0 := rfl
@[simp] theorem State.resetTick_xfer (s : State) : (s.resetTick).xfer = State.reset.xfer := rfl
@[simp] theorem State.resetTick_txbuf (s : State) : (s.resetTick).txbuf = [] := rfl
@[simp] theorem State.resetTick_err (s : State) : (s.resetTick).err = ErrCode.none := rfl
@[simp] theorem State.resetTick_rxValid (s : State) : (s.resetTick).rxValid = false := rfl
@[simp] theorem State.resetTick_rej (s : State) : (s.resetTick).rej = false := rfl
@[simp] theorem State.resetTick_rxLen (s : State) : (s.resetTick).rxLen = 0 := rfl
@[simp] theorem State.resetTick_rxbuf (s : State) : (s.resetTick).rxbuf = [] := rfl
@[simp] theorem State.resetTick_tSysclk (s : State) : (s.resetTick).tSysclk = 0 := rfl
@[simp] theorem State.resetTick_tDiv (s : State) : (s.resetTick).tDiv = 0 := rfl
@[simp] theorem State.resetTick_tBitdiv (s : State) : (s.resetTick).tBitdiv = 0 := rfl
@[simp] theorem State.resetTick_gen (s : State) : (s.resetTick).gen = Generator.reset := rfl
@[simp] theorem State.resetTick_pat (s : State) : (s.resetTick).pat = [] := rfl
@[simp] theorem State.resetTick_dig (s : State) : (s.resetTick).dig = Digitizer.resetKeeping (Config.free .prev (s.fresh + 1) 16) := rfl
@[simp] theorem State.resetTick_smp (s : State) : (s.resetTick).smp = [] := rfl
@[simp] theorem State.resetTick_latch (s : State) : (s.resetTick).latch = Latches.reset := rfl
@[simp] theorem State.resetTick_tcnt (s : State) : (s.resetTick).tcnt = 0 := rfl
@[simp] theorem State.resetTick_ioFree (s : State) : (s.resetTick).ioFree = false := rfl
@[simp] theorem State.resetTick_rxFree (s : State) : (s.resetTick).rxFree = false := rfl
@[simp] theorem State.resetTick_fresh (s : State) : (s.resetTick).fresh = s.fresh + 1 := rfl
@[simp] theorem State.resetTick_born (s : State) : (s.resetTick).born = s.fresh + 1 := rfl
@[simp] theorem State.resetTick_host (s : State) : (s.resetTick).host = s.hostRest := rfl
@[simp] theorem State.resetTick_env (s : State) : (s.resetTick).env = s.env.tail := rfl
@[simp] theorem State.resetTick_rdata (s : State) : (s.resetTick).rdata = s.hRdata := rfl

end Sys2Proof.Machine
end

