-- ==== Sys2Proof/Laws/Bus.lean ====
section
/-! SUPPORT. The host bus: what stands at an address, which writes are accepted, and the tick of a write beside the
same tick without it. -/

namespace Sys2Proof.Machine

open Sys2Proof

theorem regAt_misaligned {a : Addr} (h : a.toNat % 4 ≠ 0) : regAt a = none := by
  rw [regAt, aligned, if_neg (by simp [h])]

theorem regAt_aligned {a : Addr} (h : a.toNat % 4 = 0) : regAt a = regAtWord (a.toNat / 4) := by
  rw [regAt, aligned, if_pos (by simp [h])]

theorem regAtWord_unmapped {k : Nat} (h : (12 ≤ k ∧ k < 64) ∨ 192 ≤ k) : regAtWord k = none := by
  have e : controlRegs.length = 12 := rfl
  unfold regAtWord
  rcases h with h | h
  · rw [if_pos h.2]
    exact List.getElem?_eq_none (by omega)
  · rw [if_neg (by omega), if_neg (by omega), if_neg (by omega)]

theorem regAt_txbuf {j : Nat} (h : j < 64) : regAt (BitVec.ofNat 12 (0x100 + 4 * j)) = some (.txbuf j) := by
  have e : (BitVec.ofNat 12 (0x100 + 4 * j)).toNat = 0x100 + 4 * j := by
    rw [BitVec.toNat_ofNat]
    omega
  rw [regAt_aligned (by omega), e, regAtWord, if_neg (by omega), if_pos (by omega),
    show (0x100 + 4 * j) / 4 - 64 = j by omega]

theorem regAt_rxbuf {j : Nat} (h : j < 64) : regAt (BitVec.ofNat 12 (0x200 + 4 * j)) = some (.rxbuf j) := by
  have e : (BitVec.ofNat 12 (0x200 + 4 * j)).toNat = 0x200 + 4 * j := by
    rw [BitVec.toNat_ofNat]
    omega
  rw [regAt_aligned (by omega), e, regAtWord, if_neg (by omega), if_neg (by omega), if_pos (by omega),
    show (0x200 + 4 * j) / 4 - 128 = j by omega]

/-- The words of the register space, one line for each kind of word. -/
theorem regAtWord_cases (k : Nat) :
    (k < 12 ∧ ∃ r, regAtWord k = some r ∧ controlRegs[k]? = some r) ∨
    (64 ≤ k ∧ k < 128 ∧ regAtWord k = some (.txbuf (k - 64))) ∨
    (128 ≤ k ∧ k < 192 ∧ regAtWord k = some (.rxbuf (k - 128))) ∨
    (((12 ≤ k ∧ k < 64) ∨ 192 ≤ k) ∧ regAtWord k = none) := by
  by_cases h : (12 ≤ k ∧ k < 64) ∨ 192 ≤ k
  · exact Or.inr (Or.inr (Or.inr ⟨h, regAtWord_unmapped h⟩))
  by_cases h1 : k < 12
  · refine Or.inl ⟨h1, controlRegs[k]'(by simpa [controlRegs] using h1), ?_, ?_⟩
    · rw [regAtWord, if_pos (by omega), List.getElem?_eq_getElem]
    · rw [List.getElem?_eq_getElem]
  by_cases h2 : k < 128
  · exact Or.inr (Or.inl ⟨by omega, h2, by rw [regAtWord, if_neg (by omega), if_pos h2]⟩)
  · exact Or.inr (Or.inr (Or.inl ⟨by omega, by omega, by
      rw [regAtWord, if_neg (by omega), if_neg h2, if_pos (by omega)]⟩))

/-- Which data writes are accepted (20_memory.md R58, R59), by address. -/
theorem writeTarget_none_iff (s : State) (a : Addr) : s.writeTarget a = none ↔
    ¬ (((a.toNat = 0x00C ∨ a.toNat = 0x010 ∨ a.toNat = 0x014) ∧ s.lc = .closed) ∨
       ((a.toNat = 0x01C ∨ (0x100 ≤ a.toNat ∧ a.toNat < 0x200 ∧ a.toNat % 4 = 0)) ∧ s.seq = .idle)) := by
  unfold State.writeTarget
  by_cases h4 : a.toNat % 4 = 0
  · rw [regAt_aligned h4]
    obtain ⟨k, hk⟩ : ∃ k, a.toNat = 4 * k := ⟨a.toNat / 4, by omega⟩
    have e : a.toNat / 4 = k := by omega
    rw [e, hk]
    rcases regAtWord_cases k with ⟨h, r, h1, h2⟩ | ⟨h, h', h1⟩ | ⟨h, h', h1⟩ | ⟨h, h1⟩ <;> rw [h1]
    · interval_cases k <;> simp [controlRegs] at h2 <;> subst h2 <;> simp [State.writable]
    · have : ¬ (4 * k = 12 ∨ 4 * k = 16 ∨ 4 * k = 20) ∧ 256 ≤ 4 * k ∧ 4 * k < 512 := by omega
      simp [State.writable, this]
    · simp [State.writable]
      omega
    · simp
      omega
  · rw [regAt_misaligned h4]
    simp
    omega

/-- A write to a data register runs `dataWrite`. -/
theorem step_data {s : State} {a : Addr} {d : Word} (hr : s.rst = false) (hb : s.busOp = .wr a d) (ha : a ≠ 0) :
    step s = .next (s.tick (s.dataWrite a d)) := by
  have : (BusOp.wr a d).request = .data a d := by
    unfold BusOp.request
    exact if_neg ha
  unfold step
  rw [hb, this, hr]
  rfl

/-- A tick with no bus operation is the engine's own. -/
theorem step_silent {s : State} (hr : s.rst = false) : step s.silent = .next (s.silent.tick id) := by
  have h1 : s.silent.rst = false := hr
  have h2 : s.silent.busOp.request = .quiet := rfl
  unfold step
  rw [h1, h2]
  rfl

/-- Without the bus operation the engine does the same, and `h_rdata` carries nothing. -/
theorem silent_engine (s : State) : s.silent.engine = { s.engine with rdata := none } := by
  have e : s.silent.engine = s.sequence
      { s with gen := s.gen.tick, dig := s.dig.tick s.pinLevels, smp := s.dig.store s.pinLevels s.smp,
               env := s.env.tail, host := s.hostRest, rdata := none, fresh := s.fresh + 1 } := rfl
  rw [e, State.engine]
  unfold State.sequence
  cases s.seq <;> dsimp only <;> split_ifs <;> rfl

end Sys2Proof.Machine
end

