-- ==== Sys2Proof/Laws/Memory.lean ====
section
/-! SUPPORT. The buffers: a read after a write, and the canonical form, which every operation keeps. -/

namespace Sys2Proof.Machine

open Sys2Proof

variable {width : Nat}

@[simp] theorem Memory.read?_nil (i : Nat) : Memory.read? ([] : Memory width) i = none := rfl

theorem Memory.read?_insert_same (m : Memory width) (i : Nat) (v : BitVec width) :
    (Memory.insert m i v).read? i = some v := by
  induction m with
  | nil => simp [Memory.insert, Memory.read?]
  | cons c m ih =>
    obtain ⟨k, u⟩ := c
    unfold Memory.insert
    split
    · simp [Memory.read?]
    · split
      · simp [Memory.read?]
      · have : k ≠ i := by omega
        simpa [Memory.read?, this] using ih

theorem Memory.read?_insert_other (m : Memory width) {i j : Nat} (v : BitVec width) (h : j ≠ i) :
    (Memory.insert m i v).read? j = m.read? j := by
  induction m with
  | nil => simp [Memory.insert, Memory.read?, Ne.symm h]
  | cons c m ih =>
    obtain ⟨k, u⟩ := c
    unfold Memory.insert
    split
    · simp [Memory.read?, Ne.symm h]
    · split
      · subst_vars
        simp [Memory.read?, Ne.symm h]
      · simp [Memory.read?, ih]

/-- A read of the entry just written gives the value written. -/
theorem Memory.read?_write_same (size : Nat) (m : Memory width) {i : Nat} (v : BitVec width) (h : i < size) :
    (m.write size i v).read? i = some v := by
  rw [Memory.write, if_pos h, Memory.read?_insert_same]

/-- A write leaves every other entry alone. -/
theorem Memory.read?_write_other (size : Nat) (m : Memory width) {i j : Nat} (v : BitVec width) (h : j ≠ i) :
    (m.write size i v).read? j = m.read? j := by
  unfold Memory.write
  split
  · exact Memory.read?_insert_other m v h
  · rfl

theorem Memory.wfFrom_insert (size : Nat) (m : Memory width) (low i : Nat) (v : BitVec width)
    (hm : Memory.wfFrom size low m = true) (hlow : low ≤ i) (hi : i < size) :
    Memory.wfFrom size low (Memory.insert m i v) = true := by
  induction m generalizing low with
  | nil => simp [Memory.insert, Memory.wfFrom, hlow, hi]
  | cons c m ih =>
    obtain ⟨k, u⟩ := c
    simp only [Memory.wfFrom, Bool.and_eq_true, decide_eq_true_eq] at hm
    obtain ⟨⟨h1, h2⟩, h3⟩ := hm
    unfold Memory.insert
    split
    · simp [Memory.wfFrom, hlow, hi, h2, h3]
      omega
    · split
      · subst_vars
        simp [Memory.wfFrom, h1, h2, h3]
      · simp only [Memory.wfFrom, Bool.and_eq_true, decide_eq_true_eq]
        exact ⟨⟨h1, h2⟩, ih (k + 1) h3 (by omega)⟩

/-- A write keeps the canonical form. -/
theorem Memory.wf_write (size : Nat) (m : Memory width) (i : Nat) (v : BitVec width) (hm : m.wf size = true) :
    (m.write size i v).wf size = true := by
  unfold Memory.write
  split
  · exact Memory.wfFrom_insert size m 0 i v hm (Nat.zero_le i) ‹_›
  · exact hm

@[simp] theorem Memory.wf_nil (size : Nat) : Memory.wf size ([] : Memory width) = true := rfl

theorem Memory.wfFrom_ofList (size low : Nat) (vs : List (BitVec width)) (h : low + vs.length ≤ size) :
    Memory.wfFrom size low (Memory.ofList low vs) = true := by
  induction vs generalizing low with
  | nil => rfl
  | cons v vs ih =>
    simp only [List.length_cons] at h
    simp only [Memory.ofList, Memory.wfFrom, Bool.and_eq_true, decide_eq_true_eq]
    exact ⟨⟨le_refl _, by omega⟩, ih (low + 1) (by omega)⟩

/-- Loading consecutive entries that fit gives a buffer in canonical form. -/
theorem Memory.wf_ofList (size : Nat) (vs : List (BitVec width)) (h : vs.length ≤ size) :
    (Memory.ofList 0 vs).wf size = true := Memory.wfFrom_ofList size 0 vs (by omega)

theorem Memory.read?_ofList_from (start i : Nat) (vs : List (BitVec width)) :
    (Memory.ofList start vs).read? (start + i) = vs[i]? := by
  induction vs generalizing start i with
  | nil => simp [Memory.ofList]
  | cons v vs ih =>
    cases i with
    | zero => simp [Memory.ofList, Memory.read?]
    | succ i =>
      have h : start ≠ start + (i + 1) := by omega
      have := ih (start + 1) i
      rw [show start + 1 + i = start + (i + 1) by omega] at this
      simpa [Memory.ofList, Memory.read?, h] using this

/-- Entry `i` of a loaded buffer is value `i` of the list. -/
@[simp] theorem Memory.read?_ofList (i : Nat) (vs : List (BitVec width)) :
    (Memory.ofList 0 vs).read? i = vs[i]? := by
  simpa using Memory.read?_ofList_from 0 i vs

end Sys2Proof.Machine
end

