-- ==== Sys2Proof/Laws/Pins.lean ====
section
/-! SUPPORT. Pin masks, and which level a snapshot shows on a pin (20_memory.md R52). -/

namespace Sys2Proof.Machine

open Sys2Proof

theorem pinMask_getLsbD (p q : Nat) : (pinMask p).getLsbD q = (decide (p < 16) && decide (q = p)) := by
  unfold pinMask
  rw [BitVec.getLsbD_shiftLeft, BitVec.getLsbD_one]
  by_cases h : q = p
  · subst h
    by_cases h' : q < 16 <;> simp [h']
  · by_cases h2 : q < 16 <;> by_cases h3 : q < p <;> simp [h, h2, h3]
    omega

/-- A level masked to one pin is clear exactly when that pin is LOW. -/
theorem and_pinMask_eq_zero (x : PinWord) {p : Nat} (hp : p < 16) : x &&& pinMask p = 0 ↔ x.getLsbD p = false := by
  constructor
  · intro h
    have := congrArg (fun y => BitVec.getLsbD y p) h
    simpa [pinMask_getLsbD, hp, -BitVec.getLsbD_eq_getElem] using this
  · intro h
    apply BitVec.eq_of_getLsbD_eq
    intro i _
    by_cases hi : i = p
    · subst hi
      simp [h]
    · simp [pinMask_getLsbD, hi]

/-- The four indices of a legal assignment are pins, and differ (10_state.md R13). -/
theorem PinAssignment.legal_iff (p : PinAssignment) : p.legal = true ↔
    (p.mosi.toNat < 16 ∧ p.miso.toNat < 16 ∧ p.sclk.toNat < 16 ∧ p.ss.toNat < 16) ∧
      p.mosi.toNat ≠ p.miso.toNat ∧ p.mosi.toNat ≠ p.sclk.toNat ∧ p.mosi.toNat ≠ p.ss.toNat ∧
      p.miso.toNat ≠ p.sclk.toNat ∧ p.miso.toNat ≠ p.ss.toNat ∧ p.sclk.toNat ≠ p.ss.toNat := by
  simp only [PinAssignment.legal, PinAssignment.inRange, PinAssignment.distinct, Bool.and_eq_true, decide_eq_true_eq,
    bne_iff_ne, ne_eq, ← BitVec.toNat_inj]
  omega

theorem outMask_getLsbD (s : State) (c : Channel) (q : Nat) :
    (s.outMask c).getLsbD q = (s.chOut c && c.oeMask.getLsbD q) := by
  unfold State.outMask
  cases s.chOut c <;> simp

theorem oeMask_getLsbD (c : Channel) (q : Nat) : c.oeMask.getLsbD q = (c.en && decide (q = c.pin.toNat)) := by
  have := c.pin.isLt
  unfold Channel.oeMask
  cases c.en
  · simp
  · simp [pinMask_getLsbD]
    omega

/-- A pin the block does not drive shows the level the environment presents (R52). -/
theorem pinLevels_undriven (s : State) {q : Nat} (h : s.dioOe.getLsbD q = false) (hq : q < 16) :
    s.pinLevels.getLsbD q = s.ext.getLsbD q := by
  simp [State.pinLevels, h, hq, -BitVec.getLsbD_eq_getElem]

/-- A pin the block drives shows the level it drives (R52). -/
theorem pinLevels_driven (s : State) {q : Nat} (h : s.dioOe.getLsbD q = true) :
    s.pinLevels.getLsbD q = s.dioOut.getLsbD q := by
  simp [State.pinLevels, h]

/-- The channels are programmed for the pins of a legal assignment. -/
structure ChannelsOn (s : State) : Prop where
  defined : s.ioFree = false
  legal : s.pins.legal = true
  ss : s.gen.ss.en = true ∧ s.gen.ss.pin = s.pins.ss.setWidth 4
  sclk : s.gen.sclk.en = true ∧ s.gen.sclk.pin = s.pins.sclk.setWidth 4
  mosi : s.gen.mosi.en = true ∧ s.gen.mosi.pin = s.pins.mosi.setWidth 4

theorem ChannelsOn.dioOe {s : State} (h : ChannelsOn s) (q : Nat) : s.dioOe.getLsbD q =
    (decide (q = s.pins.ss.toNat) || decide (q = s.pins.sclk.toNat) || decide (q = s.pins.mosi.toNat)) := by
  obtain ⟨⟨h1, h2, h3, h4⟩, -⟩ := (PinAssignment.legal_iff _).1 h.legal
  simp [State.dioOe, h.defined, oeMask_getLsbD, h.ss, h.sclk, h.mosi, Nat.mod_eq_of_lt h1, Nat.mod_eq_of_lt h3,
    Nat.mod_eq_of_lt h4]

theorem ChannelsOn.dioOut {s : State} (h : ChannelsOn s) (q : Nat) : s.dioOut.getLsbD q =
    ((s.chOut s.gen.ss && decide (q = s.pins.ss.toNat)) || (s.chOut s.gen.sclk && decide (q = s.pins.sclk.toNat)) ||
      (s.chOut s.gen.mosi && decide (q = s.pins.mosi.toNat))) := by
  obtain ⟨⟨h1, h2, h3, h4⟩, -⟩ := (PinAssignment.legal_iff _).1 h.legal
  simp [State.dioOut, h.defined, outMask_getLsbD, oeMask_getLsbD, h.ss, h.sclk, h.mosi, Nat.mod_eq_of_lt h1,
    Nat.mod_eq_of_lt h3, Nat.mod_eq_of_lt h4]

/-- What a snapshot shows on the four pins of the assignment: the three channels, and the environment on MISO. -/
theorem ChannelsOn.levels {s : State} (h : ChannelsOn s) :
    s.pinLevels.getLsbD s.pins.ss.toNat = s.chOut s.gen.ss ∧
      s.pinLevels.getLsbD s.pins.sclk.toNat = s.chOut s.gen.sclk ∧
      s.pinLevels.getLsbD s.pins.mosi.toNat = s.chOut s.gen.mosi ∧
      s.pinLevels.getLsbD s.pins.miso.toNat = s.ext.getLsbD s.pins.miso.toNat := by
  obtain ⟨⟨h1, h2, h3, h4⟩, d1, d2, d3, d4, d5, d6⟩ := (PinAssignment.legal_iff _).1 h.legal
  refine ⟨?_, ?_, ?_, ?_⟩
  · rw [pinLevels_driven _ (by simp [h.dioOe]), h.dioOut]
    simp [d3.symm, d6.symm]
  · rw [pinLevels_driven _ (by simp [h.dioOe]), h.dioOut]
    simp [d6, d2.symm]
  · rw [pinLevels_driven _ (by simp [h.dioOe]), h.dioOut]
    simp [d2, d3]
  · exact pinLevels_undriven _ (by simp [h.dioOe, d5, d4, d1.symm]) h2

end Sys2Proof.Machine
end

