-- ==== Sys2Proof/Laws/Digitizer.lean ====
section
/-! SUPPORT. The digitizer: everything one tick can do, and when the trigger fires (44_digitizer_sampler.md R221 to
R227). -/

namespace Sys2Proof.Machine

open Sys2Proof

/-- A tick of the digitizer is one of four things. -/
theorem Digitizer.tick_cases (g : Digitizer) (pins : PinWord) :
    (g.triggers pins = true ∧ g.st = .armed ∧
      g.tick pins = { g with prev := pins, widx := 1, scnt := g.sdiv, st := .running }) ∨
    (g.st = .running ∧ 1 < g.scnt ∧ g.tick pins = { g with prev := pins, scnt := g.scnt - 1 }) ∨
    (g.st = .running ∧ g.scnt ≤ 1 ∧ g.tick pins =
      { g with prev := pins, widx := g.widx + 1, scnt := g.sdiv,
               st := if g.widx + 1 = g.trigPos then .done else .running }) ∨
    (g.triggers pins = false ∧ g.st ≠ .running ∧ g.tick pins = { g with prev := pins }) := by
  unfold Digitizer.tick
  rcases hst : g.st
  · exact Or.inr (Or.inr (Or.inr ⟨by simp [Digitizer.triggers, hst], by simp, by simp⟩))
  · by_cases h : g.triggers pins = true
    · exact Or.inl ⟨h, rfl, by simp [h]⟩
    · exact Or.inr (Or.inr (Or.inr ⟨by simpa using h, by simp, by simp [h]⟩))
  · by_cases h : 1 < g.scnt
    · exact Or.inr (Or.inl ⟨rfl, h, by simp [h]⟩)
    · exact Or.inr (Or.inr (Or.inl ⟨rfl, by omega, by simp [h]⟩))
  · exact Or.inr (Or.inr (Or.inr ⟨by simp [Digitizer.triggers, hst], by simp, by simp⟩))

/-- `DIG.PREV` takes the levels of the tick (R221). -/
@[simp] theorem Digitizer.tick_prev (g : Digitizer) (pins : PinWord) : (g.tick pins).prev = pins := by
  rcases g.tick_cases pins with ⟨_, _, h⟩ | ⟨_, _, h⟩ | ⟨_, _, h⟩ | ⟨_, _, h⟩ <;> rw [h]

/-- A tick keeps the configuration registers. -/
theorem Digitizer.tick_keeps (g : Digitizer) (pins : PinWord) :
    (g.tick pins).programmedAs g ∧ (g.tick pins).trigPos = g.trigPos ∧ (g.tick pins).bufSize = g.bufSize ∧
      (g.tick pins).trigEn = g.trigEn := by
  rcases g.tick_cases pins with ⟨_, _, h⟩ | ⟨_, _, h⟩ | ⟨_, _, h⟩ | ⟨_, _, h⟩ <;> rw [h] <;>
    simp [Digitizer.programmedAs]

theorem Digitizer.programmedAs_trans {a b c : Digitizer} (h : a.programmedAs b) (h' : b.programmedAs c) :
    a.programmedAs c := by
  simp only [Digitizer.programmedAs] at *
  simp_all

/-- While it is not armed with its trigger enabled and not running, only `DIG.PREV` changes. -/
theorem Digitizer.tick_at_rest (g : Digitizer) (pins : PinWord) (h : g.st ≠ .running)
    (h' : g.st = .armed → g.trigEn = false) : g.tick pins = { g with prev := pins } := by
  rcases g.tick_cases pins with ⟨ht, ha, -⟩ | ⟨hr, -, -⟩ | ⟨hr, -, -⟩ | ⟨-, -, he⟩
  · simp [Digitizer.triggers, h' ha] at ht
  · exact absurd hr h
  · exact absurd hr h
  · exact he

/-- What a tick stores keeps the canonical form of `SMP`. -/
theorem Digitizer.wf_store (g : Digitizer) (pins : PinWord) (smp : Memory 16)
    (h : smp.wf Config.maxSamples = true) : (g.store pins smp).wf Config.maxSamples = true := by
  unfold Digitizer.store
  split_ifs
  · exact Memory.wf_write _ _ _ _ h
  · exact Memory.wf_write _ _ _ _ h
  · exact h

/-- Nothing is stored while the digitizer is neither triggered nor running. -/
theorem Digitizer.store_at_rest (g : Digitizer) (pins : PinWord) (smp : Memory 16) (h : g.st ≠ .running)
    (h' : g.st = .armed → g.trigEn = false) : g.store pins smp = smp := by
  have h1 : g.triggers pins = false := by
    by_cases ha : g.st = .armed
    · simp [Digitizer.triggers, h' ha]
    · simp [Digitizer.triggers, ha]
  simp [Digitizer.store, h1, Digitizer.samples, h]

/-- The detector of a configured digitizer: SS is LOW and SCLK has just made the selected edge, which is rising when
`CPOL = CPHA` and falling when not (41_configure.md R130, R222). -/
theorem Digitizer.detects_configured {g : Digitizer} {p : PinAssignment} {m : ProtocolMode} {D : Nat} {x prev : PinWord}
    (h : g.programmedAs (configuredDigitizer p m D prev)) (hp : p.legal = true) :
    g.detects x = (!x.getLsbD p.ss.toNat &&
      if m.cpol = m.cpha then !g.prev.getLsbD p.sclk.toNat && x.getLsbD p.sclk.toNat
      else g.prev.getLsbD p.sclk.toNat && !x.getLsbD p.sclk.toNat) := by
  obtain ⟨⟨-, -, h3, h4⟩, -⟩ := (PinAssignment.legal_iff _).1 hp
  obtain ⟨-, -, -, -, hl, hh, hr, hf⟩ := h
  have key : ∀ (y : PinWord) {q : Nat}, q < 16 → ((y &&& pinMask q) != 0) = y.getLsbD q := by
    intro y q hq
    have := and_pinMask_eq_zero y hq
    by_cases hy : y.getLsbD q = true
    · rw [hy, bne_iff_ne, ne_eq, this, hy]
      simp
    · have hy' : y.getLsbD q = false := by simpa using hy
      rw [hy', this.2 hy']
      rfl
  have key0 : ∀ (y : PinWord) {q : Nat}, q < 16 → ((y &&& pinMask q) == 0) = !y.getLsbD q := by
    intro y q hq
    rw [← key y hq]
    simp [bne]
  unfold Digitizer.detects
  rw [hl, hh, hr, hf]
  simp only [configuredDigitizer, key0 x h4]
  have none : ∀ (y : PinWord), ((y &&& 0) != 0) = false := by simp
  by_cases e : m.cpol = m.cpha
  · rw [if_pos e, if_pos e, if_pos e, key _ h3, none]
    simp [h3, -BitVec.getLsbD_eq_getElem]
  · rw [if_neg e, if_neg e, if_neg e, key _ h3, none]
    simp [h3, -BitVec.getLsbD_eq_getElem]

end Sys2Proof.Machine
end

