-- ==== Sys2Proof/Laws/Generator.lean ====
section
/-! SUPPORT. The generator: what a tick leaves alone, and one tick of the closed forms. -/

namespace Sys2Proof.Machine

open Sys2Proof

/-! ### A tick and a start keep the registers of a channel -/

theorem Channel.programmedAs_trans {a b c : Channel} (h : a.programmedAs b) (h' : b.programmedAs c) :
    a.programmedAs c := by
  simp only [Channel.programmedAs] at *
  simp_all

theorem Channel.tick_programmedAs (c : Channel) : c.tick.programmedAs c := by
  unfold Channel.tick Channel.pulseStep Channel.customStep Channel.programmedAs
  cases c.dtype <;> dsimp only <;> split_ifs <;> simp

theorem Channel.start_programmedAs (c : Channel) : c.start.programmedAs c := by
  unfold Channel.start Channel.programmedAs
  cases c.dtype <;> simp

@[simp] theorem Channel.tick_patLen (c : Channel) : c.tick.patLen = c.patLen := by
  unfold Channel.tick Channel.pulseStep Channel.customStep
  cases c.dtype <;> dsimp only <;> split_ifs <;> rfl

@[simp] theorem Channel.start_patLen (c : Channel) : c.start.patLen = c.patLen := by
  unfold Channel.start
  cases c.dtype <;> rfl

@[simp] theorem Generator.tick_runLen (g : Generator) : g.tick.runLen = g.runLen := by
  unfold Generator.tick
  split_ifs <;> rfl

@[simp] theorem Generator.start_runLen (g : Generator) : g.start.runLen = g.runLen := rfl

@[simp] theorem Generator.start_running (g : Generator) : g.start.running = true := rfl

theorem Generator.tick_stopped (g : Generator) (h : g.running = false) : g.tick = g := by
  simp [Generator.tick, h]

theorem Generator.tick_running (g : Generator) (h : g.running = true) :
    g.tick = { g with ss := g.ss.tick, sclk := g.sclk.tick, mosi := g.mosi.tick, rt := g.rt + 1,
                      running := g.rt + 1 != g.runLen } := by
  simp [Generator.tick, h]

/-- A running generator has its channels ticked whether or not the run ends here. -/
theorem Generator.tick_keeps (g : Generator) :
    g.tick.ss.programmedAs g.ss ∧ g.tick.sclk.programmedAs g.sclk ∧ g.tick.mosi.programmedAs g.mosi ∧
      g.tick.mosi.patLen = g.mosi.patLen := by
  by_cases h : g.running = true
  · rw [Generator.tick_running g h]
    exact ⟨g.ss.tick_programmedAs, g.sclk.tick_programmedAs, g.mosi.tick_programmedAs, g.mosi.tick_patLen⟩
  · rw [Generator.tick_stopped g (by simpa using h)]
    simp [Channel.programmedAs]

/-! ### Arithmetic of half bit periods -/

/-- Within a half period of `D` ticks the quotient stands and the remainder grows. -/
theorem half_period_inside {t D : Nat} (h : t % D + 1 < D) : (t + 1) % D = t % D + 1 ∧ (t + 1) / D = t / D := by
  have hD : 0 < D := by omega
  have e : t + 1 = D * (t / D) + (t % D + 1) := by have := Nat.div_add_mod t D; omega
  constructor
  · rw [e, Nat.mul_add_mod, Nat.mod_eq_of_lt h]
  · rw [e, Nat.mul_add_div hD, Nat.div_eq_of_lt h, Nat.add_zero]

/-- At the end of a half period the quotient steps and the remainder is 0 again. -/
theorem half_period_end {t D : Nat} (hD : 0 < D) (h : D ≤ t % D + 1) : (t + 1) % D = 0 ∧ (t + 1) / D = t / D + 1 := by
  have hlt := Nat.mod_lt t hD
  have e : t + 1 = D * (t / D + 1) := by
    have := Nat.div_add_mod t D
    have : D * (t / D + 1) = D * (t / D) + D := by ring
    omega
  constructor
  · rw [e, Nat.mul_mod_right]
  · rw [e, Nat.mul_div_cancel_left _ hD]

/-- SCLK does not change inside a half period and changes at its end (43_waveform_generator.md R198). -/
theorem sclkLevel_step (cpol : Bool) {D t : Nat} (hD : 0 < D) :
    sclkLevel cpol D (t + 1) = if t % D + 1 < D then sclkLevel cpol D t else !(sclkLevel cpol D t) := by
  split_ifs with h
  · simp [sclkLevel, (half_period_inside h).2]
  · have := (half_period_end (t := t) hD (by omega)).2
    unfold sclkLevel
    rw [this]
    rcases Nat.mod_two_eq_zero_or_one (t / D) with h2 | h2 <;> cases cpol <;> simp [Nat.add_mod, h2]

/-- The pattern index is the one bit whose window holds the tick (43_waveform_generator.md R199). -/
theorem patternIndex_eq_of_window {D c t i : Nat} (hlo : i = 0 ∨ i * (2 * D) + c * D ≤ t)
    (hhi : t < (i + 1) * (2 * D) + c * D) : patternIndex D c t = i := by
  unfold patternIndex
  have e : (i + 1) * (2 * D) = i * (2 * D) + 2 * D := by ring
  split_ifs with h
  · rcases hlo with rfl | hlo
    · rfl
    · by_contra hne
      have : 1 * (2 * D) ≤ i * (2 * D) := Nat.mul_le_mul_right _ (by omega)
      omega
  · rcases hlo with rfl | hlo
    · omega
    · have hi : i ≠ 0 := by
        rintro rfl
        omega
      obtain ⟨j, rfl⟩ := Nat.exists_eq_succ_of_ne_zero hi
      have e2 : (j + 1) * (2 * D) = j * (2 * D) + 2 * D := by ring
      have : (t - 2 * D - c * D) / (2 * D) = j := by
        rw [Nat.div_eq_of_lt_le]
        · simp only [Nat.succ_eq_add_one] at *
          omega
        · simp only [Nat.succ_eq_add_one] at *
          rw [e2]
          omega
      omega

end Sys2Proof.Machine
end

