-- ==== Sys2Proof/Laws/PerInstr.lean ====
section
/-! SUPPORT. Statements about every command as syntax, one lemma per command. -/

/-! The word of every command has `ZERO = 0` and its opcode in `CMD[7:0]`, between 1 and 4 (30_encoding.md R80). -/

namespace Sys2Proof.Laws.EncodedWord

open Sys2Proof

/-- What the family says of one command. -/
def Statement (i : Instr) : Prop :=
  zeroField (encode i) = 0 ∧ opcField (encode i) = i.opcode ∧ wellFormedWord (encode i) = true ∧ i.wellFormed = true

theorem construct : Statement .construct := by
  unfold Statement
  decide

theorem configure : Statement .configure := by
  unfold Statement
  decide

theorem transfer : Statement .transfer := by
  unfold Statement
  decide

theorem close : Statement .close := by
  unfold Statement
  decide

end Sys2Proof.Laws.EncodedWord
end

