-- ==== Sys2Proof/Laws/Tick.lean ====
section
/-! SUPPORT. What the engine leaves alone in a tick, and everything a step can do. -/

namespace Sys2Proof.Machine

open Sys2Proof

/-- Outside the unspecified condition only `RXLEN` and `RXBUF` can be given free values. -/
theorem State.unspecify_defined {s : State} (h : s.ioFree = false) : s.unspecify =
    { s with rxLen := if s.rxFree then Config.free .rxLen s.fresh 7 else s.rxLen,
             rxbuf := if s.rxFree then [] else s.rxbuf } := by
  simp [State.unspecify, h]

/-- With the result specified too, nothing is. -/
theorem State.unspecify_nothing {s : State} (h : s.ioFree = false) (h' : s.rxFree = false) : s.unspecify = s := by
  cases s
  simp only at h h'
  subst h h'
  rfl

/-! ### The sequencer's frame: the operand registers, the timing registers and the inputs -/

/-- Everything the sequencer's part of a tick can do. -/
theorem State.sequence_cases (s t : State) :
    (s.seq = .idle ∧ s.sequence t = t) ∨
    (s.seq = .armed ∧ s.driverFault = true ∧ s.sequence t = t.raise .driver) ∨
    (s.seq = .armed ∧ s.driverFault = false ∧ s.sequence t = t.start) ∨
    (s.seq = .running ∧ s.driverFault = true ∧ s.sequence t = State.raise .driver { t with tcnt := s.tcnt + 1 }) ∨
    (s.seq = .running ∧ s.driverFault = false ∧ s.isPoll = true ∧ s.readsDone = true ∧
      s.sequence t = State.complete s.decodedBytes { t with tcnt := s.tcnt + 1 }) ∨
    (s.seq = .running ∧ s.driverFault = false ∧ s.isPoll = true ∧ s.readsDone = false ∧ s.latch.deadline ≤ s.tcnt ∧
      s.sequence t = State.raise .timeout { t with tcnt := s.tcnt + 1 }) ∨
    (s.seq = .running ∧ s.driverFault = false ∧
      (s.isPoll = false ∨ (s.readsDone = false ∧ s.tcnt < s.latch.deadline)) ∧
      s.sequence t = { t with tcnt := s.tcnt + 1 }) ∨
    (s.seq = .done ∧ s.sequence t = { t with seq := .idle }) := by
  unfold State.sequence
  cases hs : s.seq <;> cases hf : s.driverFault <;> cases hp : s.isPoll <;> cases hd : s.readsDone <;>
    by_cases hl : s.latch.deadline ≤ s.tcnt <;> (simp [hl]; try omega)

/-- The items no part of the sequencer writes. -/
theorem State.sequence_frame (s t : State) :
    (s.sequence t).params = t.params ∧ (s.sequence t).pins = t.pins ∧ (s.sequence t).mode = t.mode ∧
    (s.sequence t).speed = t.speed ∧ (s.sequence t).xfer = t.xfer ∧ (s.sequence t).txbuf = t.txbuf ∧
    (s.sequence t).rej = t.rej ∧ (s.sequence t).tSysclk = t.tSysclk ∧ (s.sequence t).tDiv = t.tDiv ∧
    (s.sequence t).tBitdiv = t.tBitdiv ∧ (s.sequence t).latch = t.latch ∧ (s.sequence t).fresh = t.fresh ∧
    (s.sequence t).born = t.born ∧ (s.sequence t).host = t.host ∧ (s.sequence t).env = t.env ∧
    (s.sequence t).rdata = t.rdata := by
  rcases s.sequence_cases t with ⟨_, h⟩ | ⟨_, _, h⟩ | ⟨_, _, h⟩ | ⟨_, _, h⟩ | ⟨_, _, _, _, h⟩ | ⟨_, _, _, _, _, h⟩ |
    ⟨_, _, _, h⟩ | ⟨_, h⟩ <;> (rw [h]; simp)

@[simp] theorem State.engine_params (s : State) : s.engine.params = s.params := (s.sequence_frame _).1
@[simp] theorem State.engine_pins (s : State) : s.engine.pins = s.pins := (s.sequence_frame _).2.1
@[simp] theorem State.engine_mode (s : State) : s.engine.mode = s.mode := (s.sequence_frame _).2.2.1
@[simp] theorem State.engine_speed (s : State) : s.engine.speed = s.speed := (s.sequence_frame _).2.2.2.1
@[simp] theorem State.engine_xfer (s : State) : s.engine.xfer = s.xfer := (s.sequence_frame _).2.2.2.2.1
@[simp] theorem State.engine_txbuf (s : State) : s.engine.txbuf = s.txbuf := (s.sequence_frame _).2.2.2.2.2.1
@[simp] theorem State.engine_rej (s : State) : s.engine.rej = s.rej := (s.sequence_frame _).2.2.2.2.2.2.1
@[simp] theorem State.engine_tSysclk (s : State) : s.engine.tSysclk = s.tSysclk := (s.sequence_frame _).2.2.2.2.2.2.2.1
@[simp] theorem State.engine_tDiv (s : State) : s.engine.tDiv = s.tDiv := (s.sequence_frame _).2.2.2.2.2.2.2.2.1
@[simp] theorem State.engine_tBitdiv (s : State) : s.engine.tBitdiv = s.tBitdiv :=
  (s.sequence_frame _).2.2.2.2.2.2.2.2.2.1
@[simp] theorem State.engine_latch (s : State) : s.engine.latch = s.latch :=
  (s.sequence_frame _).2.2.2.2.2.2.2.2.2.2.1
@[simp] theorem State.engine_fresh (s : State) : s.engine.fresh = s.fresh + 1 :=
  (s.sequence_frame _).2.2.2.2.2.2.2.2.2.2.2.1
@[simp] theorem State.engine_born (s : State) : s.engine.born = s.born :=
  (s.sequence_frame _).2.2.2.2.2.2.2.2.2.2.2.2.1
@[simp] theorem State.engine_host (s : State) : s.engine.host = s.hostRest :=
  (s.sequence_frame _).2.2.2.2.2.2.2.2.2.2.2.2.2.1
@[simp] theorem State.engine_env (s : State) : s.engine.env = s.env.tail :=
  (s.sequence_frame _).2.2.2.2.2.2.2.2.2.2.2.2.2.2.1
@[simp] theorem State.engine_rdata (s : State) : s.engine.rdata = s.hRdata :=
  (s.sequence_frame _).2.2.2.2.2.2.2.2.2.2.2.2.2.2.2

/-- With no transfer in flight the engine steps its units and uses up the inputs; the sequencer adds nothing. -/
theorem State.engine_idle (s : State) (h : s.seq = .idle) : s.engine =
    { s with gen := s.gen.tick, dig := s.dig.tick s.pinLevels, smp := s.dig.store s.pinLevels s.smp,
             env := s.env.tail, host := s.hostRest, rdata := s.hRdata, fresh := s.fresh + 1 } := by
  rw [State.engine, State.sequence, h]

/-- Everything the tick of a command can do: the accepted command's effect, or a refusal (30_encoding.md R85). -/
theorem State.command_cases (s : State) (i : Instr) (effect : State → State) :
    (s.accepts i = true ∧ s.command i effect = s.tick (fun t => effect t.accept)) ∨
    (s.accepts i = false ∧ s.command i effect = s.tick State.refuse) := by
  unfold State.command
  cases h : s.accepts i
  · exact Or.inr ⟨rfl, by simp [State.tick]⟩
  · exact Or.inl ⟨rfl, by simp [State.tick]⟩

/-- Everything a step can do. -/
theorem step_cases {s t : State} (h : step s = .next t) :
    (s.rst = true ∧ t = s.resetTick) ∨
    (s.rst = false ∧ s.busOp.request = .quiet ∧ t = s.tick id) ∨
    (s.rst = false ∧ (∃ i, s.busOp.request = .command i ∧ exec i s = .next t)) ∨
    (s.rst = false ∧ s.busOp.request = .illegal ∧ t = s.tick State.refuse) ∨
    (s.rst = false ∧ (∃ a d, s.busOp.request = .data a d ∧ t = s.tick (s.dataWrite a d))) := by
  unfold step at h
  split_ifs at h with hr
  · exact Or.inl ⟨hr, by simpa using h.symm⟩
  · have hr : s.rst = false := by simpa using hr
    cases hq : s.busOp.request with
    | quiet =>
      rw [hq] at h
      exact Or.inr (Or.inl ⟨hr, rfl, by simpa using h.symm⟩)
    | command i =>
      rw [hq] at h
      exact Or.inr (Or.inr (Or.inl ⟨hr, i, rfl, h⟩))
    | illegal =>
      rw [hq] at h
      exact Or.inr (Or.inr (Or.inr (Or.inl ⟨hr, rfl, by simpa using h.symm⟩)))
    | data a d =>
      rw [hq] at h
      exact Or.inr (Or.inr (Or.inr (Or.inr ⟨hr, a, d, rfl, by simpa using h.symm⟩)))

/-- Everything an instruction can do, one line each. -/
theorem exec_cases {i : Instr} {s t : State} (h : exec i s = .next t) :
    (i = .construct ∧ t = s.command .construct (State.construct s.driverFault)) ∨
    (i = .configure ∧ t = s.command .configure (State.configure s.driverFault)) ∨
    (i = .transfer ∧ t = s.command .transfer (State.transfer s.driverFault)) ∨
    (i = .close ∧ t = s.command .close State.close) := by
  cases i <;> simp [exec, execConstruct, execConfigure, execTransfer, execClose] at h <;> simp [h]

/-- A configured engine drives the three output pins of its assignment (41_configure.md R126 to R128). -/
theorem State.Configured.channelsOn {s : State} (h : s.Configured) (hf : s.ioFree = false)
    (hp : s.pins.legal = true) : ChannelsOn s where
  defined := hf
  legal := hp
  ss := by
    obtain ⟨h1, h2, -⟩ := h.ss
    exact ⟨h1, h2⟩
  sclk := by
    obtain ⟨h1, h2, -⟩ := h.sclk
    exact ⟨h1, h2⟩
  mosi := by
    obtain ⟨h1, h2, -⟩ := h.mosi
    exact ⟨h1, h2⟩

end Sys2Proof.Machine
end

