-- ==== Sys2Proof/Laws/Phase.lean ====
section
/-! SUPPORT. One tick of the closed forms: the phases of the running generator (43_waveform_generator.md R197 to R199)
and of the digitizer (44_digitizer_sampler.md R229, R230) go over from tick `t` to tick `t + 1`. -/

namespace Sys2Proof.Machine

open Sys2Proof

/-- The two aims of the run length (42_transfer_sequencer.md R155): past tick `2*N*D`, not past `(2*N + 1)*D`. -/
theorem runLength_window (N : Nat) {D : Nat} (h : 1 ≤ D) :
    2 * N * D + 1 ≤ runLength N D ∧ runLength N D ≤ (2 * N + 1) * D := by
  unfold runLength
  have : (2 * N + 1) * D = 2 * N * D + D := by ring
  omega

/-- One tick of SCLK as CONFIGURE programs it: the level of the closed form at the next tick. -/
theorem sclk_tick {c : Channel} {p : PinAssignment} {m : ProtocolMode} {D t : Nat} (hD : 1 ≤ D)
    (hc : c.programmedAs (sclkChannel p m D)) (hl : c.lvl = sclkLevel m.cpol D t) (hp : c.pcnt = 1)
    (hd : c.dcnt = D - t % D) :
    c.tick.lvl = sclkLevel m.cpol D (t + 1) ∧ c.tick.pcnt = 1 ∧ c.tick.dcnt = D - (t + 1) % D := by
  obtain ⟨-, -, -, dtype, div, -, low, high, -⟩ := hc
  simp only [sclkChannel] at dtype div low high
  have hlt := Nat.mod_lt t (show 0 < D from hD)
  unfold Channel.tick
  rw [dtype]
  dsimp only
  unfold Channel.pulseStep Channel.stepsAt
  rw [sclkLevel_step _ hD, hp, hd, low, high, div, hl]
  by_cases hi : t % D + 1 < D
  · rw [if_pos (by omega), if_pos hi, (half_period_inside hi).1]
    exact ⟨rfl, rfl, by dsimp only; omega⟩
  · rw [if_neg (by omega), if_neg (by omega), if_neg hi, (half_period_end (t := t) hD (by omega)).1]
    simp

/-- One tick of SS as CONFIGURE programs it: it stays LOW. -/
theorem ss_tick {c : Channel} {p : PinAssignment} (hc : c.programmedAs (ssChannel p))
    (h : c.lvl = false ∧ c.pcnt = 1 ∧ c.dcnt = 1) : c.tick.lvl = false ∧ c.tick.pcnt = 1 ∧ c.tick.dcnt = 1 := by
  obtain ⟨-, -, -, dtype, div, -, low, high, -⟩ := hc
  simp only [ssChannel] at dtype div low high
  unfold Channel.tick
  rw [dtype]
  dsimp only
  unfold Channel.pulseStep Channel.stepsAt
  rw [h.1, h.2.1, h.2.2, low, high, div]
  simp

/-- The window of the pattern bit at a tick begins no later than the tick. -/
theorem patternIndex_window (D c t : Nat) :
    patternIndex D c t = 0 ∨ patternIndex D c t * (2 * D) + c * D ≤ t := by
  unfold patternIndex
  split_ifs with h
  · exact Or.inl rfl
  · right
    have := Nat.div_mul_le_self (t - 2 * D - c * D) (2 * D)
    rw [Nat.add_mul]
    omega

/-- One tick of MOSI as CONFIGURE programs it: the index of the closed form at the next tick. -/
theorem mosi_tick {ch : Channel} {p : PinAssignment} {m : ProtocolMode} {D t : Nat} (hD : 1 ≤ D)
    (hc : ch.programmedAs (mosiChannel p m D)) (hi : ch.idx = patternIndex D m.phase t)
    (hs : t + ch.dcnt = (ch.idx + 1) * (2 * D) + m.phase * D) (h1 : 1 ≤ ch.dcnt) :
    ch.tick.idx = patternIndex D m.phase (t + 1) ∧
      t + 1 + ch.tick.dcnt = (ch.tick.idx + 1) * (2 * D) + m.phase * D ∧ 1 ≤ ch.tick.dcnt := by
  obtain ⟨-, -, -, dtype, div, -⟩ := hc
  simp only [mosiChannel] at dtype div
  have hw := patternIndex_window D m.phase t
  rw [← hi] at hw
  unfold Channel.tick
  rw [dtype]
  dsimp only
  unfold Channel.customStep
  by_cases hlt : 1 < ch.dcnt
  · rw [if_pos hlt]
    refine ⟨?_, by dsimp only; omega, by dsimp only; omega⟩
    symm
    apply patternIndex_eq_of_window <;> dsimp only <;> omega
  · rw [if_neg hlt, div]
    dsimp only
    have e : (ch.idx + 1 + 1) * (2 * D) = (ch.idx + 1) * (2 * D) + 2 * D := by ring
    refine ⟨?_, by omega, by omega⟩
    symm
    apply patternIndex_eq_of_window
    · right
      omega
    · omega

/-- A running generator in its phase at `t` is in its phase at `t + 1`, or its run has ended. `u` is any state that
holds the ticked generator under the same timing and mode. -/
theorem State.GeneratorPhase.tick {s : State} {t : Nat} (hc : s.Configured) (h : s.GeneratorPhase t)
    (hr : s.gen.running = true) :
    (s.gen.tick.running = true → ∀ u : State, u.gen = s.gen.tick → u.tDiv = s.tDiv → u.mode = s.mode →
      u.GeneratorPhase (t + 1)) ∧ (s.gen.tick.running = false → s.gen.tick.runLen ≤ t + 1) := by
  have hcount := h.count
  have hin := h.inRun
  rw [Generator.tick_running _ hr]
  constructor
  · intro hrun u hu htd hm
    have hh : u.halfBit = s.halfBit := by simp [State.halfBit, htd]
    have hsc := sclk_tick hc.positive hc.sclk h.sclk h.sclkStep.1 h.sclkStep.2
    have hmo := mosi_tick hc.positive hc.mosi h.mosi h.mosiStep h.mosiLeft
    simp at hrun
    constructor <;> rw [hu] <;> (try simp only [hh, hm])
    · omega
    · omega
    · exact ss_tick hc.ss h.ss
    · exact hsc.1
    · exact hsc.2
    · exact hmo.1
    · exact hmo.2.1
    · exact hmo.2.2
  · intro hrun
    simp at hrun ⊢
    omega

/-- START puts a configured generator in its phase at tick 0 (43_waveform_generator.md R192). -/
theorem State.GeneratorPhase.start {s : State} (hc : s.Configured) (hl : 1 ≤ s.gen.runLen) (u : State)
    (hu : u.gen = s.gen.start) (htd : u.tDiv = s.tDiv) (hm : u.mode = s.mode) : u.GeneratorPhase 0 := by
  have hh : u.halfBit = s.halfBit := by simp [State.halfBit, htd]
  have hD := hc.positive
  obtain ⟨-, -, -, ssd, ssdiv, ssi, sslow, sshigh, ssl⟩ := hc.ss
  obtain ⟨-, -, -, scd, scdiv, sci, sclow, schigh, scl⟩ := hc.sclk
  obtain ⟨-, -, -, md, mdiv, mi, -, -, -⟩ := hc.mosi
  simp only [ssChannel, sclkChannel, mosiChannel] at *
  constructor <;> rw [hu] <;> (try simp only [hh, hm]) <;>
    simp [Generator.start, Channel.start, ssd, scd, md, ssi, ssl, sci, scl, mi, Channel.stepsAt, sslow, sclow, schigh,
      sclkLevel, patternIndex] <;>
    try omega

/-- SCLK over the first cycle: CPOL, then its complement, then CPOL. -/
theorem sclkLevel_first_cycle (cpol : Bool) {D t : Nat} (hD : 1 ≤ D) (ht : t ≤ 2 * D) :
    sclkLevel cpol D t = if t < D then cpol else if t < 2 * D then !cpol else cpol := by
  unfold sclkLevel
  split_ifs with h1 h2
  · rw [Nat.div_eq_of_lt h1]
    simp
  · have : t / D = 1 := Nat.div_eq_of_lt_le (by omega) (by omega)
    rw [this]
    simp
  · have : t = 2 * D := by omega
    rw [this, Nat.mul_div_cancel _ (by omega)]
    simp

/-- The trigger tick lies in the first cycle. -/
theorem triggerTick_window {s : State} (hD : 1 ≤ s.halfBit) : 1 ≤ s.triggerTick ∧ s.triggerTick ≤ 2 * s.halfBit := by
  unfold State.triggerTick ProtocolMode.phase
  cases s.mode.cpha <;> simp <;> omega

/-- While the digitizer waits, the trigger fires exactly at the trigger tick (44_digitizer_sampler.md R229). -/
theorem State.DigitizerPhase.triggers_iff {s : State} {t : Nat} (hc : s.Configured) (hon : ChannelsOn s) (hl : s.Loaded)
    (hg : s.gen.running = true → s.GeneratorPhase t) (hs : s.gen.running = false → s.gen.runLen ≤ t)
    (h : s.DigitizerPhase t) (ha : s.dig.st = .armed) :
    s.dig.triggers s.pinLevels = decide (t = s.triggerTick) ∧
      s.pinLevels.getLsbD s.pins.sclk.toNat = sclkLevel s.mode.cpol s.halfBit t := by
  have hD := hc.positive
  obtain ⟨hw, hprev⟩ := h.waiting ha
  have hT := triggerTick_window hD
  have hb := runLength_window s.latch.nBits hD
  have hN : 8 ≤ s.latch.nBits := by
    rw [hl.bits, bitCount]
    have := hl.bytes
    omega
  have hND : 8 * s.halfBit ≤ s.latch.nBits * s.halfBit := Nat.mul_le_mul_right _ hN
  have e2 : 2 * s.latch.nBits * s.halfBit = 2 * (s.latch.nBits * s.halfBit) := by ring
  have hrun := hl.run
  have hr : s.gen.running = true := by
    by_contra hr
    have := hs (by simpa using hr)
    omega
  have hg := hg hr
  have lv := hon.levels
  have hss : s.chOut s.gen.ss = false := by
    obtain ⟨-, -, -, dtype, -⟩ := hc.ss
    simp [State.chOut, hr, dtype, ssChannel, hg.ss.1]
  have hsc : s.chOut s.gen.sclk = sclkLevel s.mode.cpol s.halfBit t := by
    obtain ⟨-, -, -, dtype, -⟩ := hc.sclk
    simp [State.chOut, hr, dtype, sclkChannel, hg.sclk]
  refine ⟨?_, by rw [lv.2.1, hsc]⟩
  unfold Digitizer.triggers
  rw [ha, h.enabled, Digitizer.detects_configured hc.dig hon.legal, lv.1, lv.2.1, hss, hsc, hprev,
    sclkLevel_first_cycle _ hD (by omega), sclkLevel_first_cycle _ hD (by omega)]
  unfold State.triggerTick ProtocolMode.phase at *
  cases hcp : s.mode.cpol <;> cases hch : s.mode.cpha <;> simp [hch] at * <;> rw [Bool.eq_iff_iff] <;> simp <;> omega

/-- The digitizer in its phase at `t` is in its phase at `t + 1`. `u` is any state that holds the ticked digitizer
under the same timing, mode, pins and latches. -/
theorem State.DigitizerPhase.tick {s : State} {t : Nat} (hc : s.Configured) (hon : ChannelsOn s) (hl : s.Loaded)
    (hg : s.gen.running = true → s.GeneratorPhase t) (hs : s.gen.running = false → s.gen.runLen ≤ t)
    (h : s.DigitizerPhase t) (u : State) (hu : u.dig = s.dig.tick s.pinLevels) (htd : u.tDiv = s.tDiv)
    (hm : u.mode = s.mode) (hp : u.pins = s.pins) (hla : u.latch = s.latch) : u.DigitizerPhase (t + 1) := by
  have hh : u.halfBit = s.halfBit := by simp [State.halfBit, htd]
  have hT : u.triggerTick = s.triggerTick := by simp [State.triggerTick, hh, hm]
  have hD := hc.positive
  have hsd : s.dig.sdiv = s.halfBit := by
    obtain ⟨-, h2, -⟩ := hc.dig
    exact h2
  have hdet := h.triggers_iff hc hon hl hg hs
  have h2 := h.enabled
  rcases s.dig.tick_cases s.pinLevels with ⟨ht, ha, he⟩ | ⟨hr, hc1, he⟩ | ⟨hr, hc1, he⟩ | ⟨ht, hnr, he⟩ <;> rw [he] at hu
  · have hd := hdet ha
    rw [ht] at hd
    have htT : t = s.triggerTick := by simpa using hd.1.symm
    constructor <;> rw [hu] <;> simp [hT, hla, hh, hsd, h2]
    rw [hl.samples, sampleCount]
    omega
  · have h1 := h.storing hr
    constructor <;> rw [hu] <;> simp [hT, hla, hh, h2, hr]
    omega
  · have h1 := h.storing hr
    have h3 := hl.position.1
    have e : (s.dig.widx + 1) * s.halfBit = s.dig.widx * s.halfBit + s.halfBit := by ring
    constructor <;> rw [hu] <;> simp [hT, hla, hh, h2, h3, hsd, hm]
    · split_ifs <;> simp
    · split_ifs <;> simp
    · intro hx
      refine ⟨by omega, by omega, by omega⟩
    · intro hx
      refine ⟨hx, ?_⟩
      have h4 : s.dig.widx = 2 * s.latch.nBits + 1 := by
        rw [hl.samples, sampleCount] at hx
        omega
      rw [h4] at h1
      unfold lastSampleTick
      unfold State.triggerTick at h1
      have : (2 * s.latch.nBits + 2 + s.mode.phase) * s.halfBit =
          (1 + s.mode.phase) * s.halfBit + (2 * s.latch.nBits + 1) * s.halfBit := by ring
      omega
  · have h0 := h.notReady
    constructor <;> rw [hu] <;> simp [hT, hla, hh, h2, hm, hp]
    · exact h0
    · intro ha
      have hd := hdet ha
      rw [ht] at hd
      have hne : ¬ t = s.triggerTick := by simpa using hd.1.symm
      have := (h.waiting ha).1
      exact ⟨by omega, by simpa using hd.2⟩
    · intro ha
      exact absurd ha hnr
    · intro ha
      have := h.complete ha
      exact ⟨this.1, by omega⟩

end Sys2Proof.Machine
end

