-- ==== Sys2Proof/Tests/Slice0.lean ====
section
/-! SUPPORT. Tests with expected values from the spec's tables and test vectors (95_test_vectors.md), and for each
statement with hypotheses a witness that meets them. -/

namespace Sys2Proof.Tests

-- One declaration at a time, which bounds the memory of the check.
set_option Elab.async false

open Sys2Proof Sys2Proof.Machine

/-! ### Machines -/

/-- The spec's standard pins: MOSI 0, MISO 3, SCLK 1, SS 2. -/
def stdPins : PinAssignment := { mosi := 0, miso := 3, sclk := 1, ss := 2 }

/-- A request of one byte, most significant bit first both ways, no extra clocks. -/
def oneByte : XferRegister := { byteCount := 1, lsbTx := false, lsbRx := false, errClk := 0 }

/-- One tick of inputs, with the MISO pin at `miso` and every other pin LOW. -/
def input (rst : Bool) (miso : Bool) (fault : BitVec 2) : EnvTick :=
  { rst := rst, ext := if miso then 8 else 0, fault := fault }

/-- The level of MOSI in tick `i` after the TRANSFER of byte `0x55` with `D` ticks to the half bit, CPHA = 0. -/
def mosiAt (D i : Nat) : Bool := decide (2 ≤ i) && decide (i < 2 + 16 * D) && (i - 2) / (2 * D) % 2 == 1

/-- Fault-free inputs that loop MOSI back to MISO `delay` ticks later. -/
def looped (D delay ticks : Nat) : List EnvTick :=
  (List.range ticks).map (fun i => input false (decide (delay ≤ i) && mosiAt D (i - delay)) 0)

/-- A closed machine in which the host does `host` and the inputs are `env`. -/
def closedDev (pins : PinAssignment) (host : List HostLine) (env : List EnvTick) : State :=
  { State.reset with
    params := { fSys := 100000000, pollTicks := 1 }
    pins := pins, speed := 10000000, dig := Digitizer.resetKeeping 0, host := host, env := env }

/-- An opened machine with this `SPEED` and mode. -/
def openDev (speed : Word) (mode : ProtocolMode) (host : List HostLine) (env : List EnvTick) : State :=
  { closedDev stdPins host env with lc := .opened, speed := speed, mode := mode }

/-- A configured machine with `D` ticks to the half bit, byte `0x55` in `TXBUF[0]` and the request `xfer`. -/
def readyDev (D : Nat) (mode : ProtocolMode) (xfer : XferRegister) (host : List HostLine) (env : List EnvTick) :
    State :=
  { State.reset with
    params := { fSys := BitVec.ofNat 32 (2 * D), pollTicks := 1 }
    lc := .ready, pins := stdPins, mode := mode, speed := 1, xfer := xfer, txbuf := [(0, 0x55)]
    tSysclk := BitVec.ofNat 32 (2 * D), tDiv := BitVec.ofNat 32 D, tBitdiv := BitVec.ofNat 32 (2 * D)
    gen :=
      { Generator.reset with
        ss := ssChannel stdPins, sclk := sclkChannel stdPins mode D, mosi := mosiChannel stdPins mode D }
    dig := configuredDigitizer stdPins mode D 0
    host := host, env := env }

def mode00 : ProtocolMode := { cpol := false, cpha := false }
def mode01 : ProtocolMode := { cpol := false, cpha := true }

/-- The machine at the tick of a one-byte TRANSFER, CPHA = 0, under a loopback of this delay. Its START is two ticks
later, so `(looping D 0).after (2 + t)` is tick `t` of the transfer. -/
def looping (D delay : Nat) : State := readyDev D mode00 oneByte [.wr 0 3] (looped D delay (2 * (16 * D + 12)))

/-- A machine that an arithmetic failure of CONFIGURE has put in `FAILED`. -/
def failedDev (host : List HostLine) (env : List EnvTick) : State :=
  { openDev 0 mode00 host env with lc := .failed, err := .configuration, tSysclk := 100000000 }

/-- A machine in `DESYNC` after a TimeoutError. -/
def desyncDev (host : List HostLine) (env : List EnvTick) : State :=
  { readyDev 1 mode00 oneByte host env with
    lc := .desync, err := .timeout, ioFree := true, rxFree := true, gen := Generator.free 0, dig := Digitizer.free 0 }

/-- A machine in `FAILED` after a CONFIGURE that a driver failure stopped, with the result of a transfer before it. -/
def driverFailedDev (host : List HostLine) (env : List EnvTick) : State :=
  { desyncDev host env with
    lc := .failed, err := .configuration, tDiv := 0, tBitdiv := 0
    rxValid := true, rxFree := false, rxLen := 1, rxbuf := [(0, 0x55)] }

/-- The inputs of one tick without reset, with this `fault_in`. -/
def one (fault : BitVec 2) : List EnvTick := [input false false fault]

/-- A TRANSFER in which `fault_in` is 0 for `k` ticks and `fault` in the next. -/
def faulty (k : Nat) (fault : BitVec 2) : State :=
  readyDev 1 mode00 oneByte [.wr 0 3] (List.replicate k (input false false 0) ++ one fault)

/-- A TRANSFER whose completion is withheld throughout. -/
def stalled : State := readyDev 1 mode00 oneByte [.wr 0 3] (List.replicate 40 (input false false 2))

/-! ### Decoding and well-formedness -/

theorem test_decode_construct : decode 0b00000000000000000000000000000001#32 = .ok .construct := rfl

theorem test_decode_configure : decode 0b00000000000000000000000000000010#32 = .ok .configure := rfl

theorem test_decode_transfer : decode 0b00000000000000000000000000000011#32 = .ok .transfer := rfl

theorem test_decode_close : decode 0b00000000000000000000000000000100#32 = .ok .close := rfl

theorem test_decode_illegal :
    decode 0#32 = .error .illegalOpcode ∧ decode 5#32 = .error .illegalOpcode ∧
    decode 0xFF#32 = .error .illegalOpcode ∧ decode 0x101#32 = .error .zeroFieldNotZero ∧
    decode 0x80000001#32 = .error .zeroFieldNotZero := ⟨rfl, rfl, rfl, rfl, rfl⟩

theorem test_wellFormedWord_refuses :
    wellFormedWord 0 = false ∧ wellFormedWord 5 = false ∧ wellFormedWord 0x101 = false := by decide

theorem test_params_refuses :
    Config.Params.wellFormed { fSys := 0, pollTicks := 1 } = false ∧
    Config.Params.wellFormed { fSys := 1, pollTicks := 0 } = false := by decide

theorem test_fetch_from_reset : decodeTableWord 32 3 = some .transfer ∧
    (State.reset.withFetchWord 32 3).busOp = .wr 0 3 := ⟨rfl, rfl⟩

/-! ### One tick of each command (95_test_vectors.md sections 1, 2.1, 2.2) -/

theorem test_construct_opens :
    let t := (closedDev (PinAssignment.ofWord 0x0C0D0E0F) [.wr 0 1] (one 0)).next
    t.busRead 0x004 = 0x00000001 ∧ t.busRead 0x008 = 0 := by decide +kernel

theorem test_construct_out_of_range :
    let t := (closedDev (PinAssignment.ofWord 0x02010310) [.wr 0 1] (one 0)).next
    t.busRead 0x004 = 0x00000000 ∧ t.busRead 0x008 = 1 := by decide +kernel

theorem test_configure_timing :
    let t := (openDev 763 mode00 [.wr 0 2] (one 0)).next
    t.busRead 0x004 = 0x00000002 ∧ t.busRead 0x024 = 0x05F5E100 ∧ t.busRead 0x028 = 65530 ∧
    t.busRead 0x02C = 131060 ∧ t.dioOe = 0x0007 ∧ t.dioOut = 0x0004 := by decide +kernel

theorem test_configure_trigger :
    let t := (openDev 30000000 mode01 [.wr 0 2] (one 0)).next
    t.dig.riseMask = 0 ∧ t.dig.fallMask = 0x0002 ∧ t.dig.lowMask = 0x0004 ∧ t.busRead 0x028 = 1 := by decide +kernel

theorem test_transfer_arms :
    let t := (readyDev 5 mode00 oneByte [.wr 0 3] (one 0)).next
    t.busRead 0x004 = 0x00001112 ∧ t.gen.runLen = 85 ∧ t.latch.deadline = 105 ∧ t.latch.nSamp = 18 ∧
    (List.range 8).map t.patBit = [false, true, false, true, false, true, false, true] := by decide +kernel

theorem test_transfer_capacity :
    let t := (readyDev 5 mode00 (XferRegister.ofWord 0x0007003F) [.wr 0 3] (one 1)).next
    t.busRead 0x004 = 0x00000002 ∧ t.busRead 0x008 = 2 := by decide +kernel

theorem test_close_releases :
    let t := (readyDev 5 mode00 oneByte [.wr 0 4] (one 0)).next
    t.busRead 0x004 = 0 ∧ t.busRead 0x028 = 0 ∧ t.busRead 0x00C = 0x02010300 ∧ t.busRead 0x100 = 0x55 ∧
    t.dioOe = 0 := by decide +kernel

theorem test_close_refused : (closedDev stdPins [.wr 0 4] (one 0)).next.busRead 0x004 = 0x00000400 := by
  decide +kernel

/-! ### Shared operations (95_test_vectors.md sections 1, 2.2, 2.6, 2.7) -/

theorem test_divider_wide : dividerOf 4294967295 1 = 2147483647 ∧ dividerOf 4294967295 2147483648 = 0 := by decide

theorem test_writable_bits :
    (closedDev stdPins [.wr 0x010 0xFFFFFFFF] (one 0)).next.busRead 0x010 = 0x00000003 ∧
    (closedDev stdPins [.wr 0x01C 0xFFFFFFFF] (one 0)).next.busRead 0x01C = 0x03FF037F ∧
    (closedDev stdPins [.wr 0x100 0x000001FF] (one 0)).next.busRead 0x100 = 0x000000FF := by decide +kernel

theorem test_refused_addresses :
    (closedDev stdPins [.wr 0x200 1] (one 0)).next.busRead 0x004 = 0x00000400 ∧
    (closedDev stdPins [.wr 0x01D 1] (one 0)).next.busRead 0x004 = 0x00000400 ∧
    (closedDev stdPins [.wr 0x300 1] (one 0)).next.busRead 0x004 = 0x00000400 := by decide +kernel

theorem test_pack_bits : packByte false (fun k => k % 2 == 1) 0 = 0x55 ∧ rev8 0x5C = 0x3A ∧ rev8 0xE9 = 0x97 := by
  decide

theorem test_trigger_sample :
    let d := { configuredDigitizer stdPins mode00 5 0 with st := .armed, trigEn := true }
    d.store 0x0002 [] = [(0, 0x0002)] ∧ d.store 0x0006 [] = [] ∧ (d.tick 0x0002).st = .running := by decide

theorem test_script_lines :
    scriptLines [.setPins 7 4 10 15, .setXfer 2 true true 3, .load [0xA3, 0x16], .transfer, .wait] =
      [.wr 0x00C 0x0F0A0407, .wr 0x01C 0x00030302, .wr 0x100 0xA3, .wr 0x104 0x16, .wr 0 3,
       .poll 0x004 0x100 0] := by decide

/-! ### The invariant at the states the witnesses use -/

theorem step_next (s : State) : step s = .next s.next := by
  have h : ∃ t, step s = .next t := by
    unfold step
    split_ifs
    · exact ⟨_, rfl⟩
    · cases s.busOp.request with
      | quiet => exact ⟨_, rfl⟩
      | command i => cases i <;> exact ⟨_, rfl⟩
      | illegal => exact ⟨_, rfl⟩
      | data a d => exact ⟨_, rfl⟩
  obtain ⟨t, h⟩ := h
  rw [State.next, h]

/-- What `State.Configured` asks, as a Boolean. -/
def configuredCheck (s : State) : Bool := decide (
  s.tSysclk = s.params.fSys ∧ s.halfBit = s.divider ∧ 1 ≤ s.halfBit ∧ s.tBitdiv.toNat = 2 * s.halfBit ∧
    s.gen.ss.programmedAs (ssChannel s.pins) ∧ s.gen.sclk.programmedAs (sclkChannel s.pins s.mode s.halfBit) ∧
    s.gen.mosi.programmedAs (mosiChannel s.pins s.mode s.halfBit) ∧
    s.dig.programmedAs (configuredDigitizer s.pins s.mode s.halfBit 0))

/-- What `State.Loaded` asks, as a Boolean. -/
def loadedCheck (s : State) : Bool := decide (
  (1 ≤ s.latch.n ∧ s.latch.n ≤ Config.maxBytes) ∧ s.latch.nBits = bitCount s.latch.n s.latch.e ∧
    s.latch.nSamp = sampleCount s.latch.nBits ∧ s.latch.nSamp < Config.maxSamples ∧
    s.gen.runLen = runLength s.latch.nBits s.halfBit ∧ s.latch.deadline = deadlineOf s.gen.runLen s.halfBit ∧
    (s.dig.trigPos = s.latch.nSamp ∧ s.dig.bufSize = s.latch.nSamp) ∧ s.gen.mosi.patLen = s.latch.nBits ∧
    (∀ k, k < s.latch.nBits → s.pat.read? k ≠ none) ∧ s.err = .none ∧ s.rxValid = false)

/-- What `State.GeneratorPhase` asks, as a Boolean. -/
def generatorCheck (s : State) (t : Nat) : Bool := decide (
  t < s.gen.runLen ∧ s.gen.rt = t ∧ (s.gen.ss.lvl = false ∧ s.gen.ss.pcnt = 1 ∧ s.gen.ss.dcnt = 1) ∧
    s.gen.sclk.lvl = sclkLevel s.mode.cpol s.halfBit t ∧
    (s.gen.sclk.pcnt = 1 ∧ s.gen.sclk.dcnt = s.halfBit - t % s.halfBit) ∧
    s.gen.mosi.idx = patternIndex s.halfBit s.mode.phase t ∧
    t + s.gen.mosi.dcnt = (s.gen.mosi.idx + 1) * (2 * s.halfBit) + s.mode.phase * s.halfBit ∧ 1 ≤ s.gen.mosi.dcnt)

/-- What `State.DigitizerPhase` asks, as a Boolean. -/
def digitizerCheck (s : State) (t : Nat) : Bool := decide (
  s.dig.trigEn = true ∧ s.dig.st ≠ .ready ∧
    (s.dig.st = .armed → t ≤ s.triggerTick ∧
      s.dig.prev.getLsbD s.pins.sclk.toNat = sclkLevel s.mode.cpol s.halfBit (t - 1)) ∧
    (s.dig.st = .running → 1 ≤ s.dig.widx ∧ s.dig.widx < s.latch.nSamp ∧ 1 ≤ s.dig.scnt ∧
      s.dig.scnt ≤ s.halfBit ∧ t + s.dig.scnt = s.triggerTick + s.dig.widx * s.halfBit + 1) ∧
    (s.dig.st = .done → s.dig.widx = s.latch.nSamp ∧ lastSampleTick s.latch.nBits s.mode.phase s.halfBit + 1 ≤ t))

/-- What `State.Inv` asks of a state with `LC = READY`, the transfer in flight apart. -/
def readyCheck (s : State) : Bool := decide (
  s.lc = .ready ∧ s.ioFree = false ∧ s.params.wellFormed = true ∧
    (s.txbuf.wf Config.bufEntries = true ∧ s.rxbuf.wf Config.bufEntries = true ∧
      s.pat.wf Config.patEntries = true ∧ s.smp.wf Config.maxSamples = true) ∧
    s.pins.legal = true ∧ configuredCheck s = true ∧
    (s.rxValid = true → s.rxFree = false ∧
      s.rxLen.toNat ≤ Config.maxBytes ∧ ∀ j, j < s.rxLen.toNat → s.rxbuf.read? j ≠ none) ∧
    (s.seq = .idle → s.gen.running = false ∧ (s.dig.st = .ready ∨ s.dig.st = .done)))

/-- What `State.Inv` asks of a transfer in flight. -/
def flightCheck (s : State) : Bool := decide (
  (s.seq = .armed → loadedCheck s = true ∧ s.gen.running = false ∧ s.dig.st = .armed ∧ s.dig.trigEn = false) ∧
    (s.seq = .running → loadedCheck s = true ∧ s.tcnt ≤ lastPollTick s.params.pollTicks.toNat s.latch.deadline ∧
      (s.gen.running = true → generatorCheck s s.tcnt = true) ∧ (s.gen.running = false → s.gen.runLen ≤ s.tcnt) ∧
      digitizerCheck s s.tcnt = true) ∧
    (s.seq = .done →
      s.gen.running = false ∧ s.dig.st = .done ∧ s.rxValid = true ∧ s.rxFree = false ∧ s.err = .none))

theorem loaded_of_check {s : State} (h : loadedCheck s = true) : s.Loaded := by
  obtain ⟨h1, h2, h3, h4, h5, h6, h7, h8, h9, h10, h11⟩ := of_decide_eq_true h
  exact ⟨h1, h2, h3, h4, h5, h6, h7, h8, h9, h10, h11⟩

theorem inv_of_check {s : State} (h : readyCheck s = true) (h' : flightCheck s = true) : s.Inv := by
  obtain ⟨hl, hf, hp, hb, hpin, hc, hres, hrest⟩ := of_decide_eq_true h
  obtain ⟨c1, c2, c3, c4, c5, c6, c7, c8⟩ := of_decide_eq_true hc
  obtain ⟨harm, hrun, hdone⟩ := of_decide_eq_true h'
  constructor
  case params => exact hp
  case buffers => exact hb
  case pins => exact fun _ => hpin
  case ready => exact fun _ => ⟨c1, c2, c3, c4, c5, c6, c7, c8⟩
  case result => exact hres
  case rest => exact fun _ => hrest
  case armed => exact fun ha => ⟨loaded_of_check (harm ha).1, (harm ha).2⟩
  case loaded => exact fun hr => loaded_of_check (hrun hr).1
  case bounded => exact fun hr => (hrun hr).2.1
  case generator =>
    intro hr hg
    obtain ⟨g1, g2, g3, g4, g5, g6, g7, g8⟩ := of_decide_eq_true ((hrun hr).2.2.1 hg)
    exact ⟨g1, g2, g3, g4, g5, g6, g7, g8⟩
  case stopped => exact fun hr => (hrun hr).2.2.2.1
  case digitizer =>
    intro hr
    obtain ⟨d1, d2, d3, d4, d5⟩ := of_decide_eq_true (hrun hr).2.2.2.2
    exact ⟨d1, d2, d3, d4, d5⟩
  case done => exact hdone
  all_goals simp [hl, hf]

theorem inv_closedDev (p : PinAssignment) (host : List HostLine) (env : List EnvTick) : (closedDev p host env).Inv := by
  constructor <;> simp [closedDev, State.reset] <;> decide

theorem inv_openDev (v : Word) (m : ProtocolMode) (host : List HostLine) (env : List EnvTick) :
    (openDev v m host env).Inv := by
  constructor <;> simp [openDev, closedDev, State.reset] <;> decide

theorem inv_failedDev (host : List HostLine) (env : List EnvTick) : (failedDev host env).Inv := by
  constructor <;> simp [failedDev, openDev, closedDev, State.reset] <;> decide

theorem inv_desyncDev (host : List HostLine) (env : List EnvTick) : (desyncDev host env).Inv := by
  constructor <;> simp [desyncDev, readyDev, State.reset] <;> decide

theorem inv_driverFailedDev (host : List HostLine) (env : List EnvTick) : (driverFailedDev host env).Inv := by
  constructor <;> simp [driverFailedDev, desyncDev, readyDev, State.reset] <;> decide

theorem inv_command : (looping 1 0).Inv := inv_of_check (by decide +kernel) (by decide +kernel)

theorem inv_armed : ((looping 1 0).after 1).Inv := inv_of_check (by decide +kernel) (by decide +kernel)

/-- The tick `t = 1` of the transfer: the trigger tick for `D = 1`, CPHA = 0. -/
theorem inv_trigger : ((looping 1 0).after 3).Inv := inv_of_check (by decide +kernel) (by decide +kernel)

/-- The tick `t = 18` of the transfer, in which the last sample is taken. -/
theorem inv_last_sample : ((looping 1 0).after 20).Inv := inv_of_check (by decide +kernel) (by decide +kernel)

/-- The tick `t = 19` of the transfer, in which the poll reads `DONE`. -/
theorem inv_poll : ((looping 1 0).after 21).Inv := inv_of_check (by decide +kernel) (by decide +kernel)

theorem inv_done : ((looping 1 0).after 22).Inv := inv_of_check (by decide +kernel) (by decide +kernel)

/-- At rest with a result. -/
theorem inv_rest : ((looping 1 0).after 23).Inv := inv_of_check (by decide +kernel) (by decide +kernel)

/-- Ticks `t = 1` and `t = 3` with `D = 2`: between two steps of the channels, and between two samples. -/
theorem inv_between : ((looping 2 0).after 3).Inv ∧ ((looping 2 0).after 5).Inv :=
  ⟨inv_of_check (by decide +kernel) (by decide +kernel), inv_of_check (by decide +kernel) (by decide +kernel)⟩

/-- The tick `t = 21` of a transfer whose completion is withheld: its deadline. -/
theorem inv_deadline : (stalled.after 23).Inv := inv_of_check (by decide +kernel) (by decide +kernel)

/-! ### For each statement with hypotheses, a state that meets them -/

theorem witness_StepRunsDecodedCommand :
    (closedDev stdPins [.wr 0 1] (one 0)).rst = false ∧
    (closedDev stdPins [.wr 0 1] (one 0)).busOp = .wr 0x000 1 ∧ decode 1#32 = .ok .construct ∧
    (closedDev stdPins [.wr 0 5] (one 0)).rst = false ∧
    (closedDev stdPins [.wr 0 5] (one 0)).busOp = .wr 0x000 5 ∧ decode 5#32 = .error .illegalOpcode :=
  ⟨rfl, rfl, rfl, rfl, rfl, rfl⟩

/-- Each command in a state of its row, and one outside it. -/
theorem witness_CommandAcceptance :
    (closedDev stdPins [] []).accepts .construct = true ∧ (openDev 1 mode00 [] []).accepts .configure = true ∧
    (looping 1 0).accepts .configure = true ∧ (desyncDev [] []).accepts .configure = true ∧
    (looping 1 0).accepts .transfer = true ∧ (failedDev [] []).accepts .close = true ∧
    (openDev 1 mode00 [] []).accepts .construct = false ∧ (failedDev [] []).accepts .configure = false ∧
    (desyncDev [] []).accepts .transfer = false ∧ (closedDev stdPins [] []).accepts .close = false := by decide

theorem witness_ReadHasNoSideEffect : (closedDev stdPins [.rd 0x004] []).busOp = .rd 0x004 := rfl

/-- The boundaries of the ranges of the address map. -/
theorem witness_ReadValues :
    regAt 0x02C = some .tBitdiv ∧ regAt 0x030 = none ∧ regAt 0x0FC = none ∧ regAt 0x100 = some (.txbuf 0) ∧
    regAt 0x1FC = some (.txbuf 63) ∧ regAt 0x200 = some (.rxbuf 0) ∧ regAt 0x2FC = some (.rxbuf 63) ∧
    regAt 0x300 = none ∧ regAt 0xFFC = none ∧ regAt 0x001 = none ∧ regAt 0x203 = none := by decide

theorem witness_WriteStoresRegister :
    (closedDev stdPins [.wr 0x00C 7] (one 0)).lc = .closed ∧ (closedDev stdPins [.wr 0x00C 7] (one 0)).rst = false ∧
    (closedDev stdPins [.wr 0x010 3] (one 0)).busOp = .wr 0x010 3 ∧
    (closedDev stdPins [.wr 0x014 9] (one 0)).busOp = .wr 0x014 9 ∧
    (closedDev stdPins [.wr 0x01C 1] (one 0)).seq = .idle ∧
    (closedDev stdPins [.wr 0x100 1] (one 0)).busOp = .wr (BitVec.ofNat 12 (0x100 + 4 * 0)) 1 ∧
    (failedDev [.wr 0x1FC 1] (one 0)).busOp = .wr (BitVec.ofNat 12 (0x100 + 4 * 63)) 1 ∧
    (failedDev [.wr 0x1FC 1] (one 0)).seq = .idle := ⟨rfl, rfl, rfl, rfl, rfl, rfl, rfl, rfl⟩

/-- A refused write, an accepted command, accepted data writes at both ends of `TXBUF`, and a read. -/
theorem witness_RejFollowsEveryWrite :
    (closedDev stdPins [.wr 0x004 1] (one 0)).busOp = .wr 0x004 1 ∧
    (closedDev stdPins [.wr 0 1] (one 0)).accepts .construct = true ∧
    (closedDev stdPins [.wr 0x00C 0] (one 0)).lc = .closed ∧
    (looping 1 0).seq = .idle ∧ (0x100 : Addr).toNat % 4 = 0 ∧ (0x1FC : Addr).toNat < 0x200 ∧
    (closedDev stdPins [.rd 0x004] (one 0)).busOp = .rd 0x004 := by decide

theorem witness_BusyRefusesEveryWrite :
    ((looping 1 0).after 1).Inv ∧
    (let s := { (looping 1 0).after 1 with host := [.wr 0x100 1] }
     s.rst = false ∧ s.seq ≠ .idle ∧ s.busOp = .wr 0x100 1) := ⟨inv_armed, by decide +kernel⟩

/-- The highest pins, in the state of the statement. -/
theorem witness_ConstructOpens :
    (closedDev { mosi := 15, miso := 14, sclk := 13, ss := 12 } [.wr 0 1] (one 0)).Inv ∧
    (closedDev { mosi := 15, miso := 14, sclk := 13, ss := 12 } [.wr 0 1] (one 0)).driverFault = false ∧
    PinAssignment.legal { mosi := 15, miso := 14, sclk := 13, ss := 12 } = true :=
  ⟨inv_closedDev _ _ _, by decide⟩

/-- The first index out of range in each place, the six collisions of section 2.1, and a driver failure. -/
theorem witness_ConstructFails :
    (∀ p host env, (closedDev p host env).Inv ∧ (closedDev p host env).lc = .closed) ∧
    (closedDev stdPins [.wr 0 1] (one 1)).driverFault = true ∧
    [0x02010310, 0x02011000, 0x02100300, 0x10010300, 0x02010303, 0x02010301, 0x02010302, 0x02010100, 0x02010200,
      0x02020300].map (fun d => (PinAssignment.ofWord d).legal) = List.replicate 10 false :=
  ⟨fun p host env => ⟨inv_closedDev p host env, rfl⟩, by decide⟩

theorem witness_CloseReleases :
    (openDev 1 mode00 [] []).lc ≠ .closed ∧ (failedDev [] []).seq = .idle ∧ (desyncDev [] []).lc ≠ .closed ∧
    (closedDev stdPins [] []).lc = .closed ∧ ((looping 1 0).after 1).seq ≠ .idle := by decide +kernel

/-- A step of each row of the table that changes `LC`. -/
theorem witness_LifecycleTable :
    (let s := { looping 1 0 with env := [input true false 0] }
     s.lc = .ready ∧ s.next.lc = .closed) ∧
    (closedDev stdPins [.wr 0 1] (one 0)).next.lc = .opened ∧
    (openDev 1 mode00 [.wr 0 2] (one 0)).next.lc = .ready ∧ (desyncDev [.wr 0 2] (one 0)).next.lc = .ready ∧
    (openDev 0 mode00 [.wr 0 2] (one 0)).next.lc = .failed ∧ (faulty 0 1).next.lc = .desync ∧
    (failedDev [.wr 0 4] (one 0)).next.lc = .closed := by decide +kernel

theorem witness_ConstructionRegistersFixed :
    (openDev 1 mode00 [.wr 0x00C 7] (one 0)).rst = false ∧ (openDev 1 mode00 [.wr 0x00C 7] (one 0)).lc ≠ .closed ∧
    step (openDev 1 mode00 [.wr 0x00C 7] (one 0)) = .next (openDev 1 mode00 [.wr 0x00C 7] (one 0)).next :=
  ⟨rfl, by decide, step_next _⟩

/-- The largest speed that still gives `D = 1` (V6, section 2.2), and a mode for each clause of the trigger selector. -/
theorem witness_ConfigureSetsTiming : ∀ m, m = mode00 ∨ m = mode01 →
    (openDev 50000000 m [.wr 0 2] (one 0)).speed ≠ 0 ∧ (openDev 50000000 m [.wr 0 2] (one 0)).seq = .idle ∧
    (openDev 50000000 m [.wr 0 2] (one 0)).lc = .opened ∧
    1 ≤ (openDev 50000000 m [.wr 0 2] (one 0)).params.fSys.toNat /
      (2 * (openDev 50000000 m [.wr 0 2] (one 0)).speed.toNat) ∧
    (openDev 50000000 m [.wr 0 2] (one 0)).driverFault = false := by
  rintro m (rfl | rfl) <;> decide

theorem witness_ConfigureProgramsChannels :
    (openDev 50000000 mode01 [.wr 0 2] (one 0)).driverFault = false ∧
    (openDev 50000000 mode01 [.wr 0 2] (one 0)).lc = .opened ∧
    1 ≤ (openDev 50000000 mode01 [.wr 0 2] (one 0)).params.fSys.toNat /
      (2 * (openDev 50000000 mode01 [.wr 0 2] (one 0)).speed.toNat) := by decide

theorem witness_ConfigureSelectsTrigger :
    (openDev 50000000 mode00 [.wr 0 2] (one 0)).mode.cpol = (openDev 50000000 mode00 [.wr 0 2] (one 0)).mode.cpha ∧
    (openDev 50000000 mode01 [.wr 0 2] (one 0)).mode.cpol ≠ (openDev 50000000 mode01 [.wr 0 2] (one 0)).mode.cpha ∧
    ∀ m, m = mode00 ∨ m = mode01 →
      1 ≤ (openDev 50000000 m [.wr 0 2] (one 0)).params.fSys.toNat /
        (2 * (openDev 50000000 m [.wr 0 2] (one 0)).speed.toNat) :=
  ⟨by decide, by decide, fun m h => (witness_ConfigureSetsTiming m h).2.2.2.1⟩

/-- With and without a driver failure. -/
theorem witness_ConfigureFrame :
    (looping 1 0).seq = .idle ∧ (looping 1 0).lc = .ready ∧ (looping 1 0).rxFree = false ∧
    (looping 1 0).driverFault = false ∧
    (let s := readyDev 1 mode00 oneByte [.wr 0 2] (one 1)
     s.seq = .idle ∧ s.lc = .ready ∧ s.rxFree = false ∧ s.driverFault = true) := by decide

/-- The three causes, the second at the first speed that is too high, and the state `FAILED`. -/
theorem witness_ConfigureFails :
    (openDev 0 mode00 [] (one 0)).speed = 0 ∧ (openDev 0 mode00 [] (one 0)).seq = .idle ∧
    (100000000 : Word).toNat < 2 * (50000001 : Word).toNat ∧ ¬ (100000000 : Word).toNat < 2 * (50000000 : Word).toNat ∧
    (openDev 1 mode00 [] (one 1)).driverFault = true ∧ (openDev 1 mode00 [] (one 1)).lc = .opened ∧
    (failedDev [] []).lc = .failed ∧ (failedDev [] []).accepts .close = true := by decide

theorem witness_ConfigureIdempotent :
    (looping 1 0).Inv ∧ (looping 1 0).lc = .ready ∧ (looping 1 0).seq = .idle ∧ (looping 1 0).driverFault = false :=
  ⟨inv_command, by decide⟩

/-- Numbers of section 2.2, `2*SPEED` dividing `F_SYS` and not, and the speeds around `F_SYS div 2` for an odd clock. -/
theorem witness_ClockDivider :
    dividerOf 100000000 1000 = 50000 ∧ dividerOf 100000000 763 = 65530 ∧ 1 ≤ dividerOf 99999999 49999999 ∧
    (2 * 10000000) ∣ 100000000 ∧ ¬ (2 * 30000000) ∣ 100000000 ∧ dividerOf 99999999 50000000 = 0 := by decide

theorem witness_IdleLevels :
    (looping 1 0).Inv ∧ (looping 1 0).lc = .ready ∧ (looping 1 0).gen.running = false ∧
    (openDev 1 mode00 [.wr 0 2] (one 0)).Inv ∧
    (let s := openDev 1 mode00 [.wr 0 2] (one 0)
     exec .configure s = .next (s.command .configure (State.configure s.driverFault)) ∧
       (s.command .configure (State.configure s.driverFault)).lc = .ready) :=
  ⟨inv_command, rfl, rfl, inv_openDev _ _ _ _, rfl, by decide +kernel⟩

/-- The rejected requests of V4 and one that is accepted beside each. -/
theorem witness_TransferCapacityError :
    (readyDev 1 mode00 oneByte [] []).lc = .ready ∧
    [0x00000000, 0x00000040, 0x0007003F, 0x01F70001].map
      (fun d => (readyDev 1 mode00 (XferRegister.ofWord d) [] []).overCapacity) = List.replicate 4 true ∧
    [0x00000001, 0x0000003F, 0x0006003F, 0x01F60001].map
      (fun d => (readyDev 1 mode00 (XferRegister.ofWord d) [] []).overCapacity) = List.replicate 4 false := by
  decide +kernel

theorem witness_TransferDriverFailure :
    (faulty 0 1).lc = .ready ∧ (faulty 0 1).seq = .idle ∧ (faulty 0 1).overCapacity = false ∧
    (faulty 0 1).driverFault = true := by decide

/-- The largest requests of V4. -/
theorem witness_TransferArms :
    (looping 1 0).Inv ∧ (looping 1 0).lc = .ready ∧ (looping 1 0).seq = .idle ∧ (looping 1 0).driverFault = false ∧
    (looping 1 0).overCapacity = false ∧
    (readyDev 1 mode00 (XferRegister.ofWord 0x0006003F) [] []).overCapacity = false ∧
    (readyDev 1 mode00 (XferRegister.ofWord 0x01F60001) [] []).overCapacity = false := ⟨inv_command, by decide⟩

/-- A payload byte and 502 `errorClocks` positions. -/
theorem witness_TransferLoadsPattern :
    let s := readyDev 1 mode00 (XferRegister.ofWord 0x01F60001) [.wr 0 3] (one 0)
    s.lc = .ready ∧ s.seq = .idle ∧ s.ioFree = false ∧ s.overCapacity = false ∧ s.driverFault = false ∧
      0 < s.xfer.byteCount.toNat ∧ 8 * s.xfer.byteCount.toNat + s.xfer.errClk.toNat = 510 := by decide

theorem witness_StartTick :
    ((looping 1 0).after 1).Inv ∧ ((looping 1 0).after 1).rst = false ∧ ((looping 1 0).after 1).seq = .armed ∧
    ((looping 1 0).after 1).driverFault = false := ⟨inv_armed, by decide +kernel⟩

theorem witness_ArmedBeforeStart :
    ((looping 1 0).after 1).Inv ∧ step ((looping 1 0).after 1) = .next ((looping 1 0).after 1).next ∧
    ((looping 1 0).after 1).gen.running = false ∧ ((looping 1 0).after 1).next.gen.running = true ∧
    ((looping 1 0).after 1).next.ioFree = false := ⟨inv_armed, step_next _, by decide +kernel⟩

/-- The tick `t = 0`, which is no poll, and the poll at `t = 1`, before the deadline. -/
theorem witness_RunningTickCounts :
    ((looping 1 0).after 3).Inv ∧ ((looping 1 0).after 3).rst = false ∧ ((looping 1 0).after 3).seq = .running ∧
    ((looping 1 0).after 3).driverFault = false ∧ ((looping 1 0).after 3).dig.st ≠ .done ∧
    ((looping 1 0).after 3).tcnt < ((looping 1 0).after 3).latch.deadline ∧ ((looping 1 0).after 2).seq = .running ∧
    ((looping 1 0).after 2).tcnt = 0 := ⟨inv_trigger, by decide +kernel⟩

theorem witness_PollCompletes :
    ((looping 1 0).after 21).Inv ∧ ((looping 1 0).after 21).rst = false ∧ ((looping 1 0).after 21).seq = .running ∧
    ((looping 1 0).after 21).driverFault = false ∧ ((looping 1 0).after 21).tcnt = 19 ∧
    ((looping 1 0).after 21).params.pollTicks = 1 ∧ ((looping 1 0).after 21).dig.st = .done ∧
    ((looping 1 0).after 21).withheld = false := ⟨inv_poll, by decide +kernel⟩

/-- The tick with `SEQ = DONE`, the tick after it, and a tick at rest without a result. -/
theorem witness_DoneAndRestTicks :
    (((looping 1 0).after 22).Inv ∧ ((looping 1 0).after 23).Inv ∧ { looping 1 0 with rxFree := true, host := [] }.Inv) ∧
    (let s := (looping 1 0).after 22
     s.rst = false ∧ s.seq = .done ∧ s.busOp = .nop) ∧
    (let s := (looping 1 0).after 23
     s.rst = false ∧ s.seq = .idle ∧ s.busOp = .nop ∧ s.ioFree = false ∧ s.rxFree = false) ∧
    (let s := { looping 1 0 with rxFree := true, host := [] }
     s.rst = false ∧ s.seq = .idle ∧ s.busOp = .nop ∧ s.ioFree = false) :=
  ⟨⟨inv_done, inv_rest, inv_of_check (by decide +kernel) (by decide +kernel)⟩, by decide +kernel⟩

/-- A withheld completion at its deadline. -/
theorem witness_PollTimesOut :
    (stalled.after 23).Inv ∧ (stalled.after 23).rst = false ∧ (stalled.after 23).seq = .running ∧
    (stalled.after 23).driverFault = false ∧ (stalled.after 23).tcnt = 21 ∧ (stalled.after 23).latch.deadline = 21 ∧
    (stalled.after 23).withheld = true := ⟨inv_deadline, by decide +kernel⟩

/-- The last poll tick, in which TimeoutError is recorded. -/
theorem witness_NoFalseTimeout :
    (stalled.after 23).Inv ∧ (stalled.after 23).seq = .running ∧
    (stalled.after 23).latch.deadline ≤ (stalled.after 23).tcnt ∧
    (stalled.after 23).tcnt =
      lastPollTick (stalled.after 23).params.pollTicks.toNat (stalled.after 23).latch.deadline ∧
    step (stalled.after 23) = .next (stalled.after 23).next ∧ (stalled.after 23).next.err = .timeout :=
  ⟨inv_deadline, by decide +kernel, by decide +kernel, by decide +kernel, step_next _, by decide +kernel⟩

/-- A transfer in flight. -/
theorem witness_BusyAlwaysClears : ((looping 1 0).after 1).Inv ∧ ((looping 1 0).after 1).seq ≠ .idle :=
  ⟨inv_armed, by decide +kernel⟩

theorem inv_faulty : ((faulty 1 1).after 1).Inv ∧ ((faulty 5 1).after 5).Inv :=
  ⟨inv_of_check (by decide +kernel) (by decide +kernel), inv_of_check (by decide +kernel) (by decide +kernel)⟩

theorem witness_DriverErrorInFlight :
    (((faulty 1 1).after 1).Inv ∧ ((faulty 5 1).after 5).Inv) ∧ ((faulty 1 1).after 1).rst = false ∧
    ((faulty 1 1).after 1).seq = .armed ∧ ((faulty 1 1).after 1).driverFault = true ∧
    ((faulty 5 1).after 5).rst = false ∧ ((faulty 5 1).after 5).seq = .running ∧
    ((faulty 5 1).after 5).driverFault = true := ⟨inv_faulty, by decide +kernel⟩

theorem witness_TransferTimeline :
    (looping 1 0).Inv ∧ (looping 1 0).startsTransfer = true ∧ (looping 1 0).reqPollTick = 19 ∧
    Throughout State.quiet ((looping 1 0).reqPollTick + 4) (looping 1 0) = true :=
  ⟨inv_command, by decide +kernel⟩

/-- Tick `t = 0`, the last tick of the run and the first after it are within the bounds of the clauses. -/
theorem witness_WaveformClosedForms :
    (looping 1 0).Inv ∧ (looping 1 0).startsTransfer = true ∧
    Throughout State.quiet ((looping 1 0).reqPollTick + 2 + 2) (looping 1 0) = true ∧
    runLength (looping 1 0).reqBits (looping 1 0).halfBit ≤ (looping 1 0).reqPollTick :=
  ⟨inv_command, by decide +kernel⟩

/-- The last sample and the tick after it are within the bounds of the clauses. -/
theorem witness_SampleTimes :
    (looping 1 0).Inv ∧ (looping 1 0).startsTransfer = true ∧
    Throughout State.quiet ((looping 1 0).reqPollTick + 2) (looping 1 0) = true ∧
    (looping 1 0).triggerTick = 1 ∧ (looping 1 0).reqSamples = 18 ∧ (looping 1 0).reqPollTick = 19 :=
  ⟨inv_command, by decide +kernel⟩

theorem witness_DecodedBits :
    (looping 1 0).Inv ∧ (looping 1 0).startsTransfer = true ∧ 0 < (looping 1 0).reqBytes ∧
    Throughout State.quiet ((looping 1 0).reqPollTick + 4) (looping 1 0) = true :=
  ⟨inv_command, by decide +kernel⟩

/-- A channel of each type, the generator running and not, and a pattern index at each side of the length. -/
theorem witness_PinLevels :
    (looping 1 0).Inv ∧ (looping 1 0).ioFree = false ∧ (looping 1 0).gen.running = false ∧
    (looping 1 0).gen.ss.en = true ∧ ((looping 1 0).after 2).gen.running = true ∧
    ((looping 1 0).after 2).gen.sclk.dtype = .pulse ∧ ((looping 1 0).after 2).gen.mosi.dtype = .custom ∧
    ((looping 1 0).after 17).gen.mosi.idx = 7 ∧ ((looping 1 0).after 17).gen.mosi.patLen = 8 ∧
    ((looping 1 0).after 18).gen.mosi.idx = 8 ∧ ((looping 1 0).after 18).gen.running = true :=
  ⟨inv_command, by decide +kernel⟩

theorem witness_MisoNeverDriven :
    (desyncDev [] []).Inv ∧ (desyncDev [] []).lc ≠ .closed ∧ (looping 1 0).Inv ∧ (looping 1 0).lc ≠ .closed :=
  ⟨inv_desyncDev _ _, by decide, inv_command, by decide⟩

/-- Two environments that differ on the driven pins 0, 1, 2 only. -/
theorem witness_DrivenPinsIgnoreTheEnvironment :
    (readyDev 1 mode00 oneByte [] (one 0)).env = one 0 ∧
    ∀ p, (readyDev 1 mode00 oneByte [] (one 0)).dioOe.getLsbD p = false →
      (0x0007 : PinWord).getLsbD p = (0x0000 : PinWord).getLsbD p := by
  have e : (readyDev 1 mode00 oneByte [] (one 0)).dioOe = 0x0007 := by decide
  refine ⟨rfl, fun p h => ?_⟩
  rw [e] at h
  simpa using h

/-- Between two steps (`D = 2`, `t = 1`), and at the steps of SCLK and MOSI (`D = 1`, `t = 1`). -/
theorem witness_GeneratorStep :
    ((looping 2 0).after 3).Inv ∧ ((looping 1 0).after 3).Inv ∧
    (let s := (looping 2 0).after 3
     s.rst = false ∧ s.seq = .running ∧ s.driverFault = false ∧ s.gen.running = true ∧ 1 < s.gen.mosi.dcnt) ∧
    (let s := (looping 2 0).after 2
     s.gen.running = true ∧ 1 < s.gen.sclk.dcnt) ∧
    (let s := (looping 1 0).after 3
     s.rst = false ∧ s.seq = .running ∧ s.driverFault = false ∧ s.gen.running = true ∧ s.gen.sclk.dcnt ≤ 1 ∧
       s.gen.mosi.dcnt ≤ 1) := ⟨inv_between.1, inv_trigger, by decide +kernel⟩

/-- A window of bit 0 and one of a later bit, at both ends, for each phase. -/
theorem witness_EdgesAndWindows :
    patternIndex 2 0 0 = 0 ∧ patternIndex 2 0 3 = 0 ∧ patternIndex 2 0 4 = 1 ∧ patternIndex 2 1 5 = 0 ∧
    patternIndex 2 1 6 = 1 ∧ patternIndex 2 1 9 = 1 ∧ sclkLevel false 2 1 = false ∧ sclkLevel false 2 2 = true := by
  decide

theorem witness_TriggerDetector :
    ((looping 1 0).after 3).Inv ∧ ((looping 1 0).after 3).lc = .ready ∧
    ((looping 1 0).after 3).dig.detects ((looping 1 0).after 3).pinLevels = true ∧ mode01.cpol ≠ mode01.cpha :=
  ⟨inv_trigger, by decide +kernel⟩

/-- Every clause: no trigger yet and the trigger; between two samples (`D = 2`); a sample, the last one, and `DONE`. -/
theorem witness_DigitizerStep :
    (((looping 1 0).after 3).Inv ∧ ((looping 2 0).after 5).Inv ∧ ((looping 1 0).after 20).Inv ∧
      ((looping 2 0).after 3).Inv) ∧
    (let s := (looping 2 0).after 3
     s.dig.st = .armed ∧ s.dig.detects s.pinLevels = false ∧ s.seq = .running ∧ s.next.seq = .running) ∧
    (let s := (looping 1 0).after 3
     s.rst = false ∧ s.dig.st = .armed ∧ s.dig.trigEn = true ∧ s.dig.detects s.pinLevels = true ∧
       s.seq = .running ∧ s.next.seq = .running) ∧
    (let s := (looping 2 0).after 5
     s.dig.st = .running ∧ 1 < s.dig.scnt ∧ s.seq = .running ∧ s.next.seq = .running) ∧
    (let s := (looping 1 0).after 20
     s.dig.st = .running ∧ s.dig.scnt ≤ 1 ∧ s.dig.widx + 1 = s.dig.trigPos ∧ s.next.seq = .running) ∧
    (let s := stalled.after 21
     s.dig.st = .done ∧ s.seq = .running ∧ s.next.seq = .running) :=
  ⟨⟨inv_trigger, inv_between.2, inv_last_sample, inv_between.1⟩, by decide +kernel⟩

/-- The loopback for equal and for different bit orders. -/
theorem witness_LoopbackRoundTrip :
    (looping 1 0).Inv ∧ Throughout State.quiet ((looping 1 0).reqPollTick + 4) (looping 1 0) = true ∧
    Throughout State.loopback ((looping 1 0).reqPollTick + 4) (looping 1 0) = true ∧
    (looping 1 0).xfer.lsbTx = (looping 1 0).xfer.lsbRx ∧
    (let s := { looping 1 0 with xfer := { oneByte with lsbRx := true } }
     s.startsTransfer = true ∧ Throughout State.quiet (s.reqPollTick + 4) s = true ∧
       Throughout State.loopback (s.reqPollTick + 4) s = true ∧ s.xfer.lsbTx ≠ s.xfer.lsbRx) :=
  ⟨inv_command, by decide +kernel⟩

/-- Delays of `D` and of `2*D` ticks. -/
theorem witness_DelayTolerance :
    ((looping 1 1).Inv ∧ (looping 1 2).Inv) ∧
    (∀ d, d < 3 → (looping 1 d).startsTransfer = true ∧
      Throughout State.quiet ((looping 1 d).reqPollTick + 4) (looping 1 d) = true ∧
      ∀ k, k < 23 - d → ((looping 1 d).after (k + d)).ext.getLsbD (looping 1 d).pins.miso.toNat =
        ((looping 1 d).after k).pinLevels.getLsbD (looping 1 d).pins.mosi.toNat) :=
  ⟨⟨inv_of_check (by decide +kernel) (by decide +kernel), inv_of_check (by decide +kernel) (by decide +kernel)⟩,
    by decide +kernel⟩

/-- A rise at the completing poll; falls at reset, CLOSE and TRANSFER; a result that stays. -/
theorem witness_RxValidRule :
    ((looping 1 0).after 21).Inv ∧ ((looping 1 0).after 21).rxValid = false ∧ ((looping 1 0).after 22).rxValid = true ∧
    (let s := { looping 1 0 with rxValid := true, env := [input true false 0] }
     s.next.rxValid = false) ∧
    (let s := { looping 1 0 with rxValid := true, host := [.wr 0 4] }
     s.next.rxValid = false) ∧
    (let s := { looping 1 0 with rxValid := true }
     s.next.rxValid = false) ∧
    (let s := (looping 1 0).after 23
     s.rxValid = true ∧ s.next.rxValid = true ∧ s.rxLen = 1) := ⟨inv_poll, by decide +kernel⟩

/-- A change of each kind. -/
theorem witness_ErrRule :
    ((failedDev [] [input true false 0]).Inv ∧ (failedDev [] [input true false 0]).next.err = .none) ∧
    (openDev 0 mode00 [.wr 0 2] (one 0)).next.err = .configuration ∧ ((faulty 1 1).after 2).err = .driver ∧
    ((faulty 5 1).after 6).err = .driver ∧ (stalled.after 23).err = .none ∧ (stalled.after 24).err = .timeout :=
  ⟨⟨inv_failedDev _ _, rfl⟩, by decide +kernel⟩

theorem witness_FaultIgnoredAtRest :
    (openDev 1 mode00 [.rd 0x004] (one 1)).env = one 1 ∧ (openDev 1 mode00 [.rd 0x004] (one 1)).seq = .idle ∧
    (openDev 1 mode00 [.rd 0x004] (one 1)).busOp = .rd 0x004 ∧ ((looping 1 0).after 22).seq = .done ∧
    ((looping 1 0).after 22).busOp = .nop := by decide +kernel

/-- A refused TRANSFER in `DESYNC` and in `FAILED`, and the ends of the address range of the clause about `TXBUF`. -/
theorem witness_DesyncKeepsDefined :
    (desyncDev [.wr 0 3] (one 0)).Inv ∧ (desyncDev [.wr 0 3] (one 0)).lc = .desync ∧
    (desyncDev [.wr 0 3] (one 0)).rst = false ∧ (desyncDev [.wr 0 3] (one 0)).busOp = .wr 0x000 (encode .transfer) ∧
    (desyncDev [.wr 0 3] (one 0)).accepts .transfer = false ∧ (0x0FC : Addr).toNat < 0x100 ∧
    0x200 ≤ (0x200 : Addr).toNat ∧
    step (desyncDev [.wr 0 3] (one 0)) = .next (desyncDev [.wr 0 3] (one 0)).next ∧
    (driverFailedDev [.wr 0 3] (one 0)).Inv ∧ (driverFailedDev [.wr 0 3] (one 0)).lc = .failed ∧
    (driverFailedDev [.wr 0 3] (one 0)).ioFree = true ∧ (driverFailedDev [.wr 0 3] (one 0)).rst = false ∧
    (driverFailedDev [.wr 0 3] (one 0)).rxFree = false ∧
    (driverFailedDev [.wr 0 3] (one 0)).accepts .transfer = false ∧
    step (driverFailedDev [.wr 0 3] (one 0)) = .next (driverFailedDev [.wr 0 3] (one 0)).next :=
  ⟨inv_desyncDev _ _, rfl, rfl, rfl, rfl, by decide, by decide, step_next _, inv_driverFailedDev _ _, rfl, rfl, rfl, rfl,
    rfl, step_next _⟩

/-- Reset, CLOSE and CONFIGURE each end the condition. -/
theorem witness_UnspecifiedConditionEnds :
    (desyncDev [] [input true false 0]).Inv ∧ (desyncDev [] [input true false 0]).ioFree = true ∧
    (desyncDev [] [input true false 0]).next.ioFree = false ∧ (desyncDev [.wr 0 4] (one 0)).next.ioFree = false ∧
    (desyncDev [.wr 0 2] (one 0)).next.ioFree = false ∧ (desyncDev [.wr 0 2] (one 0)).driverFault = false :=
  ⟨inv_desyncDev _ _, rfl, by decide +kernel⟩

theorem witness_ResetTick : (desyncDev [.rd 0x004] [input true false 0]).rst = true ∧
    (desyncDev [.rd 0x004] [input true false 0]).busOp = .rd 0x004 := ⟨rfl, rfl⟩

theorem witness_InvStep : (looping 1 0).Inv ∧ step (looping 1 0) = .next (looping 1 0).next :=
  ⟨inv_command, step_next _⟩

theorem witness_CountersFit :
    (looping 1 0).Inv ∧ (looping 1 0).Fits ∧ step (looping 1 0) = .next (looping 1 0).next :=
  ⟨inv_command, ⟨by decide, by decide, by decide, by decide, by decide⟩, step_next _⟩

end Sys2Proof.Tests
end

/-! PROOFS. The invariant by lifecycle state: what `State.Inv` says in each of them, and how it goes through a tick. -/

namespace Sys2Proof.Machine

open Sys2Proof

/-! ### The invariant by lifecycle state -/

/-- What the invariant asks in every lifecycle state. -/
structure State.Sound (s : State) : Prop where
  params : s.params.wellFormed = true
  buffers : s.txbuf.wf Config.bufEntries = true ∧ s.rxbuf.wf Config.bufEntries = true ∧
    s.pat.wf Config.patEntries = true ∧ s.smp.wf Config.maxSamples = true
  result : s.rxValid = true →
    s.rxFree = false ∧ s.rxLen.toNat ≤ Config.maxBytes ∧ ∀ j, j < s.rxLen.toNat → s.rxbuf.read? j ≠ none

/-- The digital I/O is in its reset state (10_state.md R33). -/
def State.Released (s : State) : Prop := s.gen = Generator.reset ∧ s.dig = Digitizer.resetKeeping s.dig.prev

/-- The timing registers, the result and the latches hold 0, as they do before CONFIGURE. -/
def State.Untimed (s : State) : Prop :=
  s.tSysclk = 0 ∧ s.tDiv = 0 ∧ s.tBitdiv = 0 ∧ s.rxValid = false ∧ s.rxLen = 0 ∧ s.rxFree = false ∧
    s.latch = Latches.reset ∧ s.tcnt = 0

/-- What the invariant asks of the transfer in a configured engine, by the state of the sequencer. -/
inductive State.Flight (s : State) : Prop where
  | idle (seq : s.seq = .idle) (stopped : s.gen.running = false) (dig : s.dig.st = .ready ∨ s.dig.st = .done)
  | armed (seq : s.seq = .armed) (loaded : s.Loaded) (stopped : s.gen.running = false)
      (dig : s.dig.st = .armed ∧ s.dig.trigEn = false)
  | running (seq : s.seq = .running) (loaded : s.Loaded)
      (bounded : s.tcnt ≤ lastPollTick s.params.pollTicks.toNat s.latch.deadline)
      (generator : s.gen.running = true → s.GeneratorPhase s.tcnt)
      (stopped : s.gen.running = false → s.gen.runLen ≤ s.tcnt) (digitizer : s.DigitizerPhase s.tcnt)
  | done (seq : s.seq = .done) (stopped : s.gen.running = false) (dig : s.dig.st = .done)
      (result : s.rxValid = true ∧ s.rxFree = false) (noError : s.err = .none)

/-- What the invariant asks, by lifecycle state. -/
inductive State.Stage (s : State) : Prop where
  | closed (lc : s.lc = .closed) (seq : s.seq = .idle) (io : s.ioFree = false) (released : s.Released)
      (untimed : s.Untimed)
  | opened (lc : s.lc = .opened) (seq : s.seq = .idle) (pins : s.pins.legal = true) (io : s.ioFree = false)
      (released : s.Released) (untimed : s.Untimed)
  | failed (lc : s.lc = .failed) (seq : s.seq = .idle) (pins : s.pins.legal = true)
      (released : s.ioFree = false → s.Released)
      (timing : s.tDiv = 0 ∧ s.tBitdiv = 0 ∧ s.tSysclk = s.params.fSys)
  | desync (lc : s.lc = .desync) (seq : s.seq = .idle) (pins : s.pins.legal = true) (io : s.ioFree = true)
      (noResult : s.rxValid = false)
  | ready (lc : s.lc = .ready) (pins : s.pins.legal = true) (io : s.ioFree = false) (configured : s.Configured)
      (flight : s.Flight)

/-- The values of the unspecified condition, which every tick draws anew. -/
def State.Drawn (s : State) : Prop :=
  s.ioFree = true → s.gen = Generator.free s.fresh ∧ s.dig = Digitizer.free s.fresh

theorem State.Inv.sound {s : State} (h : s.Inv) : s.Sound := ⟨h.params, h.buffers, h.result⟩

theorem State.Inv.seq_idle {s : State} (h : s.Inv) (hlc : s.lc ≠ .ready) : s.seq = .idle := by
  by_contra hs
  exact hlc (h.busy hs)

theorem State.Inv.defined {s : State} (h : s.Inv) (h1 : s.lc ≠ .desync) (h2 : s.lc ≠ .failed) :
    s.ioFree = false := by
  by_contra hio
  rcases h.freeOnly (by simpa using hio) with h3 | h3
  · exact h1 h3
  · exact h2 h3

theorem State.Inv.flight {s : State} (h : s.Inv) (hlc : s.lc = .ready) : s.Flight := by
  cases hs : s.seq with
  | idle => exact .idle hs (h.rest hlc hs).1 (h.rest hlc hs).2
  | armed =>
    obtain ⟨hl, hr, hd⟩ := h.armed hs
    exact .armed hs hl hr hd
  | running =>
    exact .running hs (h.loaded hs) (h.bounded hs) (h.generator hs) (h.stopped hs) (h.digitizer hs)
  | done =>
    obtain ⟨hr, hd, hv, hf, he⟩ := h.done hs
    exact .done hs hr hd ⟨hv, hf⟩ he

theorem State.Inv.stage {s : State} (h : s.Inv) : s.Stage := by
  cases hlc : s.lc with
  | closed =>
    exact .closed hlc (h.seq_idle (by simp [hlc])) (h.defined (by simp [hlc]) (by simp [hlc]))
      (h.released (.inl hlc)) (h.untimed (.inl hlc))
  | opened =>
    exact .opened hlc (h.seq_idle (by simp [hlc])) (h.pins (by simp [hlc]))
      (h.defined (by simp [hlc]) (by simp [hlc])) (h.released (.inr (.inl hlc))) (h.untimed (.inr hlc))
  | ready =>
    exact .ready hlc (h.pins (by simp [hlc])) (h.defined (by simp [hlc]) (by simp [hlc])) (h.ready hlc)
      (h.flight hlc)
  | failed =>
    exact .failed hlc (h.seq_idle (by simp [hlc])) (h.pins (by simp [hlc]))
      (fun hio => h.released (.inr (.inr ⟨hlc, hio⟩))) (h.failed hlc)
  | desync =>
    obtain ⟨hio, hv⟩ := h.desync hlc
    exact .desync hlc (h.seq_idle (by simp [hlc])) (h.pins (by simp [hlc])) hio hv

/-! What a stage says under a hypothesis that leaves only some of its cases: the others contradict it. -/

theorem State.Stage.busy {s : State} (h : s.Stage) (hs : s.seq ≠ .idle) : s.lc = .ready := by
  cases h <;> simp_all

theorem State.Stage.freeOnly {s : State} (h : s.Stage) (hio : s.ioFree = true) : s.lc = .desync ∨ s.lc = .failed := by
  cases h <;> simp_all

theorem State.Stage.pins_legal {s : State} (h : s.Stage) (hlc : s.lc ≠ .closed) : s.pins.legal = true := by
  cases h <;> simp_all

theorem State.Stage.untimed {s : State} (h : s.Stage) (hlc : s.lc = .closed ∨ s.lc = .opened) : s.Untimed := by
  cases h <;> simp_all

theorem State.Stage.released {s : State} (h : s.Stage)
    (hlc : s.lc = .closed ∨ s.lc = .opened ∨ (s.lc = .failed ∧ s.ioFree = false)) : s.Released := by
  cases h <;> simp_all

theorem State.Stage.at_failed {s : State} (h : s.Stage) (hlc : s.lc = .failed) :
    s.tDiv = 0 ∧ s.tBitdiv = 0 ∧ s.tSysclk = s.params.fSys := by
  cases h <;> simp_all

theorem State.Stage.at_desync {s : State} (h : s.Stage) (hlc : s.lc = .desync) :
    s.ioFree = true ∧ s.rxValid = false := by
  cases h <;> simp_all

theorem State.Stage.at_ready {s : State} (h : s.Stage) (hlc : s.lc = .ready) :
    s.ioFree = false ∧ s.Configured ∧ s.Flight := by
  cases h <;> simp_all

theorem State.Stage.flight {s : State} (h : s.Stage) (hs : s.seq ≠ .idle) : s.Flight :=
  (h.at_ready (h.busy hs)).2.2

theorem State.Flight.at_idle {s : State} (h : s.Flight) (hs : s.seq = .idle) :
    s.gen.running = false ∧ (s.dig.st = .ready ∨ s.dig.st = .done) := by
  cases h <;> simp_all

theorem State.Flight.at_armed {s : State} (h : s.Flight) (hs : s.seq = .armed) :
    s.Loaded ∧ s.gen.running = false ∧ s.dig.st = .armed ∧ s.dig.trigEn = false := by
  cases h <;> simp_all

theorem State.Flight.at_running {s : State} (h : s.Flight) (hs : s.seq = .running) :
    s.Loaded ∧ s.tcnt ≤ lastPollTick s.params.pollTicks.toNat s.latch.deadline ∧
      (s.gen.running = true → s.GeneratorPhase s.tcnt) ∧ (s.gen.running = false → s.gen.runLen ≤ s.tcnt) ∧
      s.DigitizerPhase s.tcnt := by
  cases h <;> simp_all

theorem State.Flight.at_done {s : State} (h : s.Flight) (hs : s.seq = .done) :
    s.gen.running = false ∧ s.dig.st = .done ∧ s.rxValid = true ∧ s.rxFree = false ∧ s.err = .none := by
  cases h <;> simp_all

/-- The invariant from its parts. -/
theorem State.Stage.inv {s : State} (h : s.Stage) (hso : s.Sound) (hd : s.Drawn) : s.Inv := by
  have flight : ∀ q : SeqState, q ≠ .idle → s.seq = q → s.Flight := fun q hq hs => h.flight (hs ▸ hq)
  have running : s.seq = .running → _ := fun hs => (flight .running nofun hs).at_running hs
  exact {
    params := hso.params
    buffers := hso.buffers
    busy := h.busy
    freeOnly := h.freeOnly
    free := hd
    desync := h.at_desync
    pins := h.pins_legal
    released := h.released
    untimed := h.untimed
    failed := h.at_failed
    ready := fun hlc => (h.at_ready hlc).2.1
    result := hso.result
    rest := fun hlc hs => (h.at_ready hlc).2.2.at_idle hs
    armed := fun hs => (flight .armed nofun hs).at_armed hs
    loaded := fun hs => (running hs).1
    bounded := fun hs => (running hs).2.1
    generator := fun hs => by
      obtain ⟨-, -, hg, -⟩ := running hs
      exact hg
    stopped := fun hs => by
      obtain ⟨-, -, -, hr, -⟩ := running hs
      exact hr
    digitizer := fun hs => by
      obtain ⟨-, -, -, -, hd⟩ := running hs
      exact hd
    done := fun hs => (flight .done nofun hs).at_done hs }

/-! ### What a change of the state may touch without touching the stage -/

theorem State.Configured.congr {s t : State} (h : s.Configured) (hparams : t.params = s.params)
    (hpins : t.pins = s.pins) (hmode : t.mode = s.mode) (hspeed : t.speed = s.speed)
    (htiming : t.tSysclk = s.tSysclk ∧ t.tDiv = s.tDiv ∧ t.tBitdiv = s.tBitdiv)
    (hgen : t.gen.ss.programmedAs s.gen.ss ∧ t.gen.sclk.programmedAs s.gen.sclk ∧
      t.gen.mosi.programmedAs s.gen.mosi) (hdig : t.dig.programmedAs s.dig) : t.Configured := by
  obtain ⟨hsys, htd, htb⟩ := htiming
  obtain ⟨hss, hsclk, hmosi⟩ := hgen
  have hh : t.halfBit = s.halfBit := by rw [State.halfBit, htd, State.halfBit]
  have hD : t.divider = s.divider := by rw [State.divider, hparams, hspeed, State.divider]
  constructor
  · rw [hsys, hparams, h.sysclk]
  · rw [hh, hD, h.ratio]
  · rw [hh]; exact h.positive
  · rw [hh, htb, h.bit]
  · rw [hpins]; exact Channel.programmedAs_trans hss h.ss
  · rw [hpins, hmode, hh]; exact Channel.programmedAs_trans hsclk h.sclk
  · rw [hpins, hmode, hh]; exact Channel.programmedAs_trans hmosi h.mosi
  · rw [hpins, hmode, hh]; exact Digitizer.programmedAs_trans hdig h.dig

/-- A change that leaves the units alone. -/
theorem State.Configured.congr_units {s t : State} (h : s.Configured) (hparams : t.params = s.params)
    (hpins : t.pins = s.pins) (hmode : t.mode = s.mode) (hspeed : t.speed = s.speed)
    (htiming : t.tSysclk = s.tSysclk ∧ t.tDiv = s.tDiv ∧ t.tBitdiv = s.tBitdiv) (hgen : t.gen = s.gen)
    (hdig : t.dig = s.dig) : t.Configured :=
  h.congr hparams hpins hmode hspeed htiming (by simp [hgen, Channel.programmedAs])
    (by simp [hdig, Digitizer.programmedAs])

theorem State.Loaded.congr {s t : State} (h : s.Loaded) (htd : t.tDiv = s.tDiv) (hlatch : t.latch = s.latch)
    (hgen : t.gen.runLen = s.gen.runLen ∧ t.gen.mosi.patLen = s.gen.mosi.patLen)
    (hdig : t.dig.trigPos = s.dig.trigPos ∧ t.dig.bufSize = s.dig.bufSize) (hpat : t.pat = s.pat)
    (herr : t.err = s.err) (hv : t.rxValid = s.rxValid) : t.Loaded := by
  have hh : t.halfBit = s.halfBit := by rw [State.halfBit, htd, State.halfBit]
  constructor <;> simp only [hh, hlatch, hgen, hdig, hpat, herr, hv]
  exacts [h.bytes, h.bits, h.samples, h.capacity, h.run, h.deadline, h.position, h.length, h.pattern, h.noError,
    h.noResult]

theorem State.GeneratorPhase.congr {s t : State} {k : Nat} (h : s.GeneratorPhase k) (hgen : t.gen = s.gen)
    (htd : t.tDiv = s.tDiv) (hmode : t.mode = s.mode) : t.GeneratorPhase k := by
  have hh : t.halfBit = s.halfBit := by rw [State.halfBit, htd, State.halfBit]
  constructor <;> simp only [hgen, hh, hmode]
  exacts [h.inRun, h.count, h.ss, h.sclk, h.sclkStep, h.mosi, h.mosiStep, h.mosiLeft]

theorem State.DigitizerPhase.congr {s t : State} {k : Nat} (h : s.DigitizerPhase k) (hdig : t.dig = s.dig)
    (htd : t.tDiv = s.tDiv) (hmode : t.mode = s.mode) (hpins : t.pins = s.pins) (hlatch : t.latch = s.latch) :
    t.DigitizerPhase k := by
  have hh : t.halfBit = s.halfBit := by rw [State.halfBit, htd, State.halfBit]
  have hT : t.triggerTick = s.triggerTick := by rw [State.triggerTick, hh, hmode, State.triggerTick]
  constructor <;> simp only [hdig, hh, hT, hmode, hpins, hlatch]
  exacts [h.enabled, h.notReady, h.waiting, h.storing, h.complete]

/-- `t` holds what the stage of `s` speaks of. In the unspecified condition that leaves out the units, and with no
transfer in flight the pin levels of the last tick and the error code. -/
structure State.SameStage (s t : State) : Prop where
  params : t.params = s.params
  lc : t.lc = s.lc
  seq : t.seq = s.seq
  operands : t.pins = s.pins ∧ t.mode = s.mode ∧ t.speed = s.speed
  timing : t.tSysclk = s.tSysclk ∧ t.tDiv = s.tDiv ∧ t.tBitdiv = s.tBitdiv
  transfer : t.latch = s.latch ∧ t.tcnt = s.tcnt
  ioFree : t.ioFree = s.ioFree
  result : t.rxValid = s.rxValid ∧ t.rxFree = s.rxFree ∧ (s.rxFree = false → t.rxLen = s.rxLen)
  units : s.ioFree = false → t.gen = s.gen ∧ t.pat = s.pat ∧ t.dig = { s.dig with prev := t.dig.prev }
  inFlight : s.ioFree = false → s.seq ≠ .idle → t.err = s.err ∧ t.dig = s.dig

theorem State.Released.congr {s t : State} (h : s.Released) (hgen : t.gen = s.gen)
    (hdig : t.dig = { s.dig with prev := t.dig.prev }) : t.Released := by
  obtain ⟨hg, hd⟩ := h
  rw [hd] at hdig
  exact ⟨hgen.trans hg, hdig⟩

theorem State.Untimed.congr {s t : State} (h : s.Untimed) (hs : s.SameStage t) : t.Untimed := by
  obtain ⟨h1, h2, h3, h4, h5, h6, h7, h8⟩ := h
  obtain ⟨hsys, htd, htb⟩ := hs.timing
  obtain ⟨hla, htc⟩ := hs.transfer
  obtain ⟨hv, hf, hl⟩ := hs.result
  exact ⟨hsys.trans h1, htd.trans h2, htb.trans h3, hv.trans h4, (hl h6).trans h5, hf.trans h6, hla.trans h7,
    htc.trans h8⟩

/-- The transfer in flight speaks of nothing outside `State.SameStage`. -/
theorem State.Flight.congr {s t : State} (h : s.Flight) (hs : s.SameStage t) (hio : s.ioFree = false) : t.Flight := by
  obtain ⟨hpins, hmode, -⟩ := hs.operands
  obtain ⟨-, htd, -⟩ := hs.timing
  obtain ⟨hlatch, htcnt⟩ := hs.transfer
  obtain ⟨hv, hf, -⟩ := hs.result
  obtain ⟨hgen, hpat, hdig⟩ := hs.units hio
  have loaded : s.Loaded → s.seq ≠ .idle → t.Loaded := fun hl hq =>
    hl.congr htd hlatch ⟨by rw [hgen], by rw [hgen]⟩ ⟨by rw [hdig], by rw [hdig]⟩ hpat (hs.inFlight hio hq).1 hv
  cases h with
  | idle seq stopped dig => exact .idle (hs.seq.trans seq) (hgen ▸ stopped) (by rw [hdig]; exact dig)
  | armed seq hl stopped dig =>
    exact .armed (hs.seq.trans seq) (loaded hl (by simp [seq])) (hgen ▸ stopped) (by rw [hdig]; exact dig)
  | running seq hl bounded generator stopped digitizer =>
    obtain ⟨-, hdig⟩ := hs.inFlight hio (by simp [seq])
    refine .running (hs.seq.trans seq) (loaded hl (by simp [seq])) ?_ ?_ ?_ ?_ <;> rw [htcnt]
    · rw [hs.params, hlatch]
      exact bounded
    · rw [hgen]
      exact fun hr => (generator hr).congr hgen htd hmode
    · rw [hgen]
      exact stopped
    · exact digitizer.congr hdig htd hmode hpins hlatch
  | done seq stopped dig result noError =>
    exact .done (hs.seq.trans seq) (hgen ▸ stopped) (by rw [hdig]; exact dig) ⟨hv.trans result.1, hf.trans result.2⟩
      ((hs.inFlight hio (by simp [seq])).1.trans noError)

theorem State.Stage.congr {s t : State} (h : s.Stage) (hs : s.SameStage t) : t.Stage := by
  obtain ⟨hpins, hmode, hspeed⟩ := hs.operands
  have hio := hs.ioFree
  cases h with
  | closed lc seq io released untimed =>
    obtain ⟨hgen, -, hdig⟩ := hs.units io
    exact .closed (hs.lc.trans lc) (hs.seq.trans seq) (hio.trans io) (released.congr hgen hdig) (untimed.congr hs)
  | opened lc seq pins io released untimed =>
    obtain ⟨hgen, -, hdig⟩ := hs.units io
    exact .opened (hs.lc.trans lc) (hs.seq.trans seq) (hpins ▸ pins) (hio.trans io) (released.congr hgen hdig)
      (untimed.congr hs)
  | failed lc seq pins released timing =>
    obtain ⟨hsys, htd, htb⟩ := hs.timing
    obtain ⟨h1, h2, h3⟩ := timing
    refine .failed (hs.lc.trans lc) (hs.seq.trans seq) (hpins ▸ pins) (fun hf => ?_)
      ⟨htd.trans h1, htb.trans h2, by rw [hsys, hs.params, h3]⟩
    obtain ⟨hgen, -, hdig⟩ := hs.units (hio.symm.trans hf)
    exact (released (hio.symm.trans hf)).congr hgen hdig
  | desync lc seq pins io noResult =>
    exact .desync (hs.lc.trans lc) (hs.seq.trans seq) (hpins ▸ pins) (hio.trans io) (hs.result.1.trans noResult)
  | ready lc pins io configured flight =>
    obtain ⟨hgen, -, hdig⟩ := hs.units io
    exact .ready (hs.lc.trans lc) (hpins ▸ pins) (hio.trans io)
      (configured.congr hs.params hpins hmode hspeed hs.timing (by simp [hgen, Channel.programmedAs])
        (by rw [hdig]; simp [Digitizer.programmedAs]))
      (flight.congr hs io)

/-! ### What the host's operation adds to a tick -/

/-- The invariant before the unspecified items are drawn: what the engine and the host's operation keep. -/
structure State.PreInv (s : State) : Prop where
  stage : s.Stage
  sound : s.Sound

theorem State.sameStage_unspecify (s : State) : s.SameStage s.unspecify := by
  constructor <;> simp +contextual

/-- The end of every tick draws the unspecified items and makes the invariant whole. -/
theorem State.PreInv.unspecify_inv {s : State} (h : s.PreInv) : s.unspecify.Inv := by
  obtain ⟨hst, hp, ⟨htx, hrx, hpat, hsmp⟩, hres⟩ := h
  refine (hst.congr s.sameStage_unspecify).inv ⟨hp, ⟨htx, ?_, ?_, ?_⟩, fun hv => ?_⟩ fun hio => ?_
  · rw [State.unspecify_rxbuf]
    split_ifs <;> simp [hrx]
  · rw [State.unspecify_pat]
    split_ifs <;> simp [hpat]
  · rw [State.unspecify_smp]
    split_ifs <;> simp [hsmp]
  · obtain ⟨hf, hl⟩ := hres hv
    simpa [hf] using hl
  · replace hio : s.ioFree = true := hio
    simp [hio]

theorem State.PreInv.tick_inv {s : State} {op : State → State} (h : (op s.engine).PreInv) : (s.tick op).Inv :=
  h.unspecify_inv

/-- `STATUS.REJ` is no part of the invariant. -/
theorem State.PreInv.refuse {s : State} (h : s.PreInv) : s.refuse.PreInv where
  stage := h.stage.congr (by constructor <;> simp)
  sound := ⟨h.sound.params, h.sound.buffers, h.sound.result⟩

theorem State.PreInv.accept {s : State} (h : s.PreInv) : s.accept.PreInv where
  stage := h.stage.congr (by constructor <;> simp)
  sound := ⟨h.sound.params, h.sound.buffers, h.sound.result⟩

/-- An error without loss of synchronisation, with no transfer in flight, changes `ERR` only. -/
theorem State.PreInv.raise_keeping {s : State} (h : s.PreInv) {e : ErrorEvent} (he : e.losesSync = false)
    (hlc : e.lifecycle s.lc = s.lc) (hs : s.seq = .idle) : (s.raise e).PreInv where
  stage := h.stage.congr (by constructor <;> simp [he, hlc, hs])
  sound := ⟨h.sound.params, h.sound.buffers, by simpa [he] using h.sound.result⟩

/-- An error that loses synchronisation leads to `DESYNC` from every state with a legal assignment (60_exceptions.md
R275, R278). -/
theorem State.Sound.raise_losing {s : State} (h : s.Sound) (hp : s.pins.legal = true) {e : ErrorEvent}
    (he : e.losesSync = true) : (s.raise e).PreInv where
  stage := .desync (by cases e <;> simp_all [ErrorEvent.losesSync, ErrorEvent.lifecycle]) rfl hp (by simp [he])
    (by simp [he])
  sound := ⟨h.params, h.buffers, by simp [he]⟩

/-- In `CLOSED` the pins, the mode and the speed are free to change. -/
theorem State.PreInv.closed_operands {s : State} (h : s.PreInv) (hlc : s.lc = .closed) (p : PinAssignment)
    (m : ProtocolMode) (v : Word) : State.PreInv { s with pins := p, mode := m, speed := v } where
  stage := by
    cases h.stage with
    | closed lc seq io released untimed => exact .closed lc seq io released untimed
    | opened lc | failed lc | desync lc | ready lc => simp [hlc] at lc
  sound := ⟨h.sound.params, h.sound.buffers, h.sound.result⟩

/-- A data register that may be written takes any word (20_memory.md R59). -/
theorem State.PreInv.setReg {s : State} (h : s.PreInv) {r : RegName} (hw : s.writable r = true) (d : Word) :
    (s.setReg r d).PreInv := by
  cases r with
  | pins => exact h.closed_operands (by simpa [State.writable] using hw) (PinAssignment.ofWord d) s.mode s.speed
  | mode => exact h.closed_operands (by simpa [State.writable] using hw) s.pins (ProtocolMode.ofWord d) s.speed
  | speed => exact h.closed_operands (by simpa [State.writable] using hw) s.pins s.mode d
  | xfer =>
    exact ⟨h.stage.congr (by constructor <;> simp [State.setReg]), h.sound.params, h.sound.buffers, h.sound.result⟩
  | txbuf j =>
    obtain ⟨htx, hrest⟩ := h.sound.buffers
    exact ⟨h.stage.congr (by constructor <;> simp [State.setReg]), h.sound.params,
      ⟨Memory.wf_write _ _ _ _ htx, hrest⟩, h.sound.result⟩
  | cmd | status | err | sysclk | rxLen | tSysclk | tDiv | tBitdiv | rxbuf => simp [State.writable] at hw

/-! ### The accepted commands -/

theorem State.PreInv.construct {s : State} (h : s.PreInv) (hlc : s.lc = .closed) (fault : Bool) :
    (s.construct fault).PreInv := by
  cases h.stage with
  | closed lc seq io released untimed =>
    have failing : (s.raise .construct).PreInv := h.raise_keeping rfl rfl seq
    unfold State.construct
    split_ifs with hr hd hf
    · exact failing
    · exact failing
    · exact failing
    · have hp : s.pins.legal = true := by simpa [PinAssignment.legal] using And.intro hr hd
      exact ⟨.opened rfl seq hp io released untimed, h.sound.params, h.sound.buffers, h.sound.result⟩
  | opened lc | failed lc | desync lc | ready lc => simp [hlc] at lc

theorem State.PreInv.close {s : State} (h : s.PreInv) (hs : s.seq = .idle) : s.close.PreInv where
  stage := .closed rfl hs rfl ⟨rfl, rfl⟩ (by simp [State.Untimed])
  sound := ⟨h.sound.params, ⟨h.sound.buffers.1, by simp⟩, by simp⟩

/-- A divider that is not 0 leaves room for the bit period in 32 bits (41_configure.md R123, R124). -/
theorem dividerOf_double_lt {fSys speed : Word} (h : dividerOf fSys speed ≠ 0) : 2 * dividerOf fSys speed < 2 ^ 32 := by
  have := Nat.div_mul_le_self fSys.toNat (2 * speed.toNat)
  have hs : 1 ≤ speed.toNat := by
    by_contra hs
    apply h
    rw [dividerOf, show speed.toNat = 0 by omega, Nat.mul_zero, Nat.div_zero]
  have := Nat.mul_le_mul_left (dividerOf fSys speed) (show 2 ≤ 2 * speed.toNat by omega)
  have := fSys.isLt
  unfold dividerOf at *
  omega

/-- A CONFIGURE that passes its checks leaves a configured engine (41_configure.md R122 to R130). -/
theorem State.program_configured {s : State} (hsys : s.tSysclk = s.params.fSys) (hD : s.divider ≠ 0) :
    s.program.Configured := by
  have hlt := dividerOf_double_lt hD
  have hh : s.program.halfBit = s.divider := by
    simp only [State.halfBit, State.program_tDiv, BitVec.toNat_ofNat]
    exact Nat.mod_eq_of_lt (by unfold State.divider; omega)
  constructor
  · exact hsys
  · exact hh
  · omega
  · rw [hh, State.program_tBitdiv, BitVec.toNat_ofNat]
    exact Nat.mod_eq_of_lt hlt
  · simp [Channel.programmedAs]
  · rw [hh]
    simp [Channel.programmedAs]
  · rw [hh]
    simp [Channel.programmedAs]
  · rw [hh]
    exact ⟨rfl, rfl, rfl, rfl, rfl, rfl, rfl, rfl⟩

theorem State.Released.configureFails_stage {s : State} (h : s.Released) (hp : s.pins.legal = true)
    (hsys : s.tSysclk = s.params.fSys) : s.configureFails.Stage :=
  .failed rfl rfl hp (fun _ => h) ⟨rfl, rfl, hsys⟩

theorem State.configureFails_indeterminate_stage {s : State} (hp : s.pins.legal = true)
    (hsys : s.tSysclk = s.params.fSys) : s.configureFails.indeterminate.Stage :=
  .failed rfl rfl hp nofun ⟨rfl, rfl, hsys⟩

theorem State.Released.program_stage {s : State} (h : s.Released) (hp : s.pins.legal = true) (hs : s.seq = .idle)
    (hio : s.ioFree = false) (hsys : s.tSysclk = s.params.fSys) (hD : s.divider ≠ 0) : s.program.Stage := by
  obtain ⟨hgen, -⟩ := h
  have stopped : s.program.gen.running = false := by simp [hgen, Generator.reset]
  exact .ready rfl hp hio (s.program_configured hsys hD) (.idle hs stopped (.inl rfl))

/-- CONFIGURE, from any state with a legal assignment and no transfer in flight (41_configure.md R120, R125). -/
theorem State.PreInv.configure {s : State} (h : s.PreInv) (hs : s.seq = .idle) (hlc : s.lc ≠ .closed) (fault : Bool) :
    (s.configure fault).PreInv := by
  have hp := h.stage.pins_legal hlc
  obtain ⟨hpar, ⟨htx, hrx, -⟩, hres⟩ := h.sound
  have buffers : s.txbuf.wf Config.bufEntries = true ∧ s.rxbuf.wf Config.bufEntries = true ∧
    Memory.wf Config.patEntries ([] : Memory 1) = true ∧ Memory.wf Config.maxSamples ([] : Memory 16) = true :=
    ⟨htx, hrx, rfl, rfl⟩
  unfold State.configure
  dsimp only
  have released : State.Released { s.resetDigitalIO with tSysclk := s.params.fSys, pat := [], smp := [] } := ⟨rfl, rfl⟩
  split_ifs with hspeed hD hf
  · exact ⟨released.configureFails_stage hp rfl, hpar, buffers, hres⟩
  · exact ⟨released.configureFails_stage hp rfl, hpar, buffers, hres⟩
  · exact ⟨State.configureFails_indeterminate_stage hp rfl, hpar, buffers, hres⟩
  · exact ⟨released.program_stage hp hs rfl rfl hD, hpar, buffers, hres⟩

/-- What a request that fits is bounded by (42_transfer_sequencer.md R151). -/
theorem State.overCapacity_eq_false_iff (s : State) : s.overCapacity = false ↔
    (1 ≤ s.reqBytes ∧ s.reqBytes ≤ Config.maxBytes) ∧ s.reqSamples < Config.maxSamples := by
  simp only [State.overCapacity, Bool.or_eq_false_iff, beq_eq_false_iff_ne, decide_eq_false_iff_not]
  omega

/-- The pattern lists every bit of the request (R161). -/
theorem State.read?_pattern_ne_none (s : State) {k : Nat} (hk : k < s.reqBits) : s.pattern.read? k ≠ none := by
  simp [State.pattern, hk]

theorem State.wf_pattern {s : State} (hc : s.overCapacity = false) : s.pattern.wf Config.patEntries = true := by
  obtain ⟨-, hsamp⟩ := s.overCapacity_eq_false_iff.1 hc
  apply Memory.wf_ofList
  simp only [State.reqSamples, sampleCount, Config.maxSamples] at hsamp
  simp only [List.length_map, List.length_range, Config.patEntries]
  omega

/-- Loading a request that fits is a loaded transfer (R153 to R161). -/
theorem State.load_loaded {s : State} (hc : s.overCapacity = false) : s.load.Loaded := by
  obtain ⟨hbytes, hsamp⟩ := s.overCapacity_eq_false_iff.1 hc
  exact {
    bytes := hbytes
    bits := rfl
    samples := rfl
    capacity := hsamp
    run := rfl
    deadline := rfl
    position := ⟨rfl, rfl⟩
    length := rfl
    pattern := fun k hk => s.read?_pattern_ne_none hk
    noError := rfl
    noResult := rfl }

theorem State.PreInv.load {s : State} (h : s.PreInv) (hs : s.seq = .idle) (hlc : s.lc = .ready)
    (hc : s.overCapacity = false) : s.load.PreInv := by
  obtain ⟨hio, hconf, hfl⟩ := h.stage.at_ready hlc
  obtain ⟨hstop, -⟩ := hfl.at_idle hs
  obtain ⟨htx, hrx, -, hsmp⟩ := h.sound.buffers
  have configured : s.load.Configured :=
    hconf.congr rfl rfl rfl rfl ⟨rfl, rfl, rfl⟩ (by simp [Channel.programmedAs])
      (by simp [Digitizer.programmedAs, Digitizer.arm])
  exact ⟨.ready hlc (h.stage.pins_legal (by simp [hlc])) hio configured
      (.armed rfl (State.load_loaded hc) hstop ⟨rfl, rfl⟩),
    h.sound.params, ⟨htx, hrx, State.wf_pattern hc, hsmp⟩, nofun⟩

theorem State.PreInv.transfer {s : State} (h : s.PreInv) (hs : s.seq = .idle) (hlc : s.lc = .ready) (fault : Bool) :
    (s.transfer fault).PreInv := by
  unfold State.transfer
  split_ifs with hc hf
  · exact h.raise_keeping rfl rfl hs
  · exact h.sound.raise_losing (h.stage.pins_legal (by simp [hlc])) rfl
  · exact h.load hs hlc (by simpa using hc)

/-! ### What the engine does by itself -/

/-- The engine's own updates before the sequencer acts: the units step, and the inputs of the tick are used up. -/
def State.stepUnits (s : State) : State :=
  { s with
    gen := s.gen.tick
    dig := s.dig.tick s.pinLevels
    smp := s.dig.store s.pinLevels s.smp
    env := s.env.tail
    host := s.hostRest
    rdata := s.hRdata
    fresh := s.fresh + 1 }

theorem State.engine_eq_sequence_stepUnits (s : State) : s.engine = s.sequence s.stepUnits := rfl

theorem State.Sound.stepUnits {s : State} (h : s.Sound) : s.stepUnits.Sound := by
  obtain ⟨hp, ⟨htx, hrx, hpat, hsmp⟩, hres⟩ := h
  exact ⟨hp, ⟨htx, hrx, hpat, s.dig.wf_store _ _ hsmp⟩, hres⟩

theorem Digitizer.tick_at_rest_of_ready_or_done (g : Digitizer) (pins : PinWord) (h : g.st = .ready ∨ g.st = .done) :
    g.tick pins = { g with prev := pins } :=
  g.tick_at_rest pins (by rcases h with h | h <;> simp [h]) (by rcases h with h | h <;> simp [h])

/-- With no transfer in flight and outside the unspecified condition the units are at rest. -/
theorem State.Stage.at_rest {s : State} (h : s.Stage) (hs : s.seq = .idle) (hio : s.ioFree = false) :
    s.gen.running = false ∧ (s.dig.st = .ready ∨ s.dig.st = .done) := by
  have of_released : s.Released → s.gen.running = false ∧ (s.dig.st = .ready ∨ s.dig.st = .done) := by
    intro ⟨hgen, hdig⟩
    rw [hgen, hdig]
    exact ⟨rfl, .inl rfl⟩
  cases h with
  | closed lc seq io released untimed => exact of_released released
  | opened lc seq pins io released untimed => exact of_released released
  | failed lc seq pins released timing => exact of_released (released hio)
  | desync lc seq pins io noResult => simp [hio] at io
  | ready lc pins io configured flight => exact flight.at_idle hs

theorem State.Stage.stepUnits_idle {s : State} (h : s.Stage) (hs : s.seq = .idle) : s.stepUnits.Stage := by
  exact h.congr {
    params := rfl
    lc := rfl
    seq := rfl
    operands := ⟨rfl, rfl, rfl⟩
    timing := ⟨rfl, rfl, rfl⟩
    transfer := ⟨rfl, rfl⟩
    ioFree := rfl
    result := ⟨rfl, rfl, fun _ => rfl⟩
    units := fun hio => by
      obtain ⟨hstop, hdig⟩ := h.at_rest hs hio
      refine ⟨s.gen.tick_stopped hstop, rfl, ?_⟩
      simp only [State.stepUnits, s.dig.tick_at_rest_of_ready_or_done _ hdig]
    inFlight := fun _ hq => absurd hs hq }

theorem State.Configured.stepUnits {s : State} (h : s.Configured) : s.stepUnits.Configured := by
  obtain ⟨hss, hsclk, hmosi, -⟩ := s.gen.tick_keeps
  exact h.congr rfl rfl rfl rfl ⟨rfl, rfl, rfl⟩ ⟨hss, hsclk, hmosi⟩ (s.dig.tick_keeps _).1

theorem State.Loaded.stepUnits {s : State} (h : s.Loaded) : s.stepUnits.Loaded := by
  obtain ⟨-, hpos, hbuf, -⟩ := s.dig.tick_keeps s.pinLevels
  exact h.congr rfl rfl ⟨s.gen.tick_runLen, s.gen.tick_keeps.2.2.2⟩ ⟨hpos, hbuf⟩ rfl rfl rfl

/-- START (42_transfer_sequencer.md R163): both units are in their phases at tick 0. -/
theorem State.Loaded.start_flight {s : State} (hl : s.Loaded) (hc : s.Configured) (hon : ChannelsOn s)
    (hstop : s.gen.running = false) (hd : s.dig.st = .armed) (he : s.dig.trigEn = false) :
    s.stepUnits.start.Flight := by
  have hgen : s.gen.tick = s.gen := s.gen.tick_stopped hstop
  have hdig : s.dig.tick s.pinLevels = { s.dig with prev := s.pinLevels } :=
    s.dig.tick_at_rest _ (by simp [hd]) fun _ => he
  have hsclk : s.pinLevels.getLsbD s.pins.sclk.toNat = s.mode.cpol := by
    obtain ⟨-, -, idle, -⟩ := hc.sclk
    rw [hon.levels.2.1, State.chOut, if_neg (by simp [hstop]), idle, sclkChannel]
  have hrun : 1 ≤ s.gen.runLen := by
    have := (runLength_window s.latch.nBits hc.positive).1
    rw [hl.run]
    omega
  have loaded : s.stepUnits.start.Loaded :=
    hl.stepUnits.congr rfl rfl ⟨rfl, Channel.start_patLen _⟩ ⟨rfl, rfl⟩ rfl rfl rfl
  have digitizer : s.stepUnits.start.DigitizerPhase 0 := by
    have hst : s.stepUnits.start.dig = { s.dig with prev := s.pinLevels, trigEn := true } := by
      simp [State.stepUnits, hdig]
    constructor <;> rw [hst] <;> simp only [hd, reduceCtorEq, ne_eq, not_false_eq_true, false_implies, forall_const]
    refine ⟨Nat.zero_le _, ?_⟩
    change s.pinLevels.getLsbD s.pins.sclk.toNat = sclkLevel s.mode.cpol _ _
    rw [hsclk]
    simp [sclkLevel]
  exact .running rfl loaded (Nat.zero_le _)
    (fun _ => State.GeneratorPhase.start hc hrun _ (by simp [State.stepUnits, hgen]) rfl rfl) nofun digitizer

theorem State.isPoll_iff (s : State) : s.isPoll = true ↔ 0 < s.tcnt ∧ s.tcnt % s.params.pollTicks.toNat = 0 := by
  simp [State.isPoll]

theorem State.readsDone_iff (s : State) : s.readsDone = true ↔ s.dig.st = .done ∧ s.withheld = false := by
  simp [State.readsDone]

/-- The last poll tick is a poll tick, at or after the deadline (60_exceptions.md R273). -/
theorem lastPollTick_spec {poll deadline : Nat} (hp : 1 ≤ poll) :
    lastPollTick poll deadline % poll = 0 ∧ deadline ≤ lastPollTick poll deadline := by
  refine ⟨Nat.mul_mod_right _ _, ?_⟩
  have h1 := Nat.div_add_mod (deadline + poll - 1) poll
  have h2 := Nat.mod_lt (deadline + poll - 1) (show 0 < poll by omega)
  unfold lastPollTick
  omega

/-- A tick that is no poll, or a poll before the deadline, comes before the last poll tick. -/
theorem State.tcnt_lt_lastPollTick {s : State} (hp : 1 ≤ s.params.pollTicks.toNat) (hd : 0 < s.latch.deadline)
    (hb : s.tcnt ≤ lastPollTick s.params.pollTicks.toNat s.latch.deadline)
    (h : s.isPoll = false ∨ s.tcnt < s.latch.deadline) :
    s.tcnt < lastPollTick s.params.pollTicks.toNat s.latch.deadline := by
  obtain ⟨hmod, hle⟩ := lastPollTick_spec (deadline := s.latch.deadline) hp
  rcases h with h | h
  · by_contra hge
    have heq : s.tcnt = lastPollTick s.params.pollTicks.toNat s.latch.deadline := by omega
    have : s.isPoll = true := s.isPoll_iff.2 ⟨by omega, by rw [heq, hmod]⟩
    simp [this] at h
  · omega

/-- A tick of a transfer in flight that neither ends nor fails it (R164). -/
theorem State.Loaded.count_flight {s : State} (hl : s.Loaded) (hc : s.Configured) (hon : ChannelsOn s)
    (hs : s.seq = .running) (hb : s.tcnt < lastPollTick s.params.pollTicks.toNat s.latch.deadline)
    (hg : s.gen.running = true → s.GeneratorPhase s.tcnt) (hstop : s.gen.running = false → s.gen.runLen ≤ s.tcnt)
    (hd : s.DigitizerPhase s.tcnt) : State.Flight { s.stepUnits with tcnt := s.tcnt + 1 } := by
  have loaded : State.Loaded { s.stepUnits with tcnt := s.tcnt + 1 } :=
    hl.stepUnits.congr rfl rfl ⟨rfl, rfl⟩ ⟨rfl, rfl⟩ rfl rfl rfl
  refine .running hs loaded hb (fun hr => ?_) (fun hr => ?_) ?_
  · cases hrun : s.gen.running with
    | true => exact ((hg hrun).tick hc hrun).1 hr _ rfl rfl rfl
    | false =>
      change s.gen.tick.running = true at hr
      rw [s.gen.tick_stopped hrun, hrun] at hr
      cases hr
  · change s.gen.tick.running = false at hr
    change s.gen.tick.runLen ≤ s.tcnt + 1
    cases hrun : s.gen.running with
    | true => exact ((hg hrun).tick hc hrun).2 hr
    | false =>
      rw [s.gen.tick_runLen]
      exact (hstop hrun).trans (Nat.le_succ _)
  · exact hd.tick hc hon hl hg hstop _ rfl rfl rfl rfl rfl

/-- When the digitizer is done the run of the generator is over (43_waveform_generator.md R196, R230). -/
theorem State.DigitizerPhase.generator_stopped {s : State} (hc : s.Configured) (hl : s.Loaded)
    (hg : s.gen.running = true → s.GeneratorPhase s.tcnt) (h : s.DigitizerPhase s.tcnt) (hd : s.dig.st = .done) :
    s.gen.running = false := by
  by_contra hr
  have hin := (hg (by simpa using hr)).inRun
  have hlast := (h.complete hd).2
  have hrun := (runLength_window s.latch.nBits hc.positive).2
  have : (2 * s.latch.nBits + 1) * s.halfBit ≤ lastSampleTick s.latch.nBits s.mode.phase s.halfBit :=
    Nat.mul_le_mul_right _ (by omega)
  rw [hl.run] at hin
  omega

theorem State.decodedBytes_length (s : State) : s.decodedBytes.length = s.latch.n := by
  simp [State.decodedBytes]

/-- The result of a transfer is at most `MAX_BYTES` long and lists every byte it counts (R255). -/
theorem State.Sound.complete {s : State} (h : s.Sound) {bytes : List Byte} (hb : bytes.length ≤ Config.maxBytes) :
    (s.complete bytes).Sound := by
  have hlen : (s.complete bytes).rxLen.toNat = bytes.length := by
    rw [State.complete_rxLen, BitVec.toNat_ofNat]
    exact Nat.mod_eq_of_lt (hb.trans_lt (by decide))
  refine ⟨h.params, ⟨h.buffers.1, ?_, rfl, rfl⟩, fun _ => ⟨rfl, hlen ▸ hb, fun j hj => ?_⟩⟩
  · exact Memory.wf_ofList _ _ (hb.trans (by decide))
  · rw [hlen] at hj
    simp [hj]

/-- Units that have come to the end of a transfer stay there. -/
theorem State.stepUnits_stopped {s : State} (hstop : s.gen.running = false) (hdone : s.dig.st = .done) :
    s.stepUnits.gen.running = false ∧ s.stepUnits.dig.st = .done := by
  simp only [State.stepUnits, s.gen.tick_stopped hstop, s.dig.tick_at_rest_of_ready_or_done _ (.inr hdone)]
  exact ⟨hstop, hdone⟩

/-- What holds of the engine while a transfer is in flight or has just ended. -/
theorem State.Inv.in_flight {s : State} (h : s.Inv) (hq : s.seq ≠ .idle) :
    s.lc = .ready ∧ s.Configured ∧ ChannelsOn s := by
  have hlc := h.busy hq
  obtain ⟨hio, hc, -⟩ := h.stage.at_ready hlc
  exact ⟨hlc, hc, hc.channelsOn hio (h.pins (by simp [hlc]))⟩

/-- The tick of START (R163). -/
theorem State.Inv.engine_start {s : State} (h : s.Inv) (hs : s.seq = .armed) : s.stepUnits.start.PreInv := by
  obtain ⟨hlc, hc, hon⟩ := h.in_flight (by simp [hs])
  obtain ⟨hl, hstop, hd, he⟩ := h.armed hs
  have configured : s.stepUnits.start.Configured :=
    hc.stepUnits.congr rfl rfl rfl rfl ⟨rfl, rfl, rfl⟩
      ⟨Channel.start_programmedAs _, Channel.start_programmedAs _, Channel.start_programmedAs _⟩
      ⟨rfl, rfl, rfl, rfl, rfl, rfl, rfl, rfl⟩
  have hso := h.sound.stepUnits
  exact ⟨.ready hlc hon.legal hon.defined configured (hl.start_flight hc hon hstop hd he),
    hso.params, hso.buffers, hso.result⟩

/-- A tick in flight that is no poll, or a poll that reads not `DONE` before the deadline (R164, R166). -/
theorem State.Inv.engine_count {s : State} (h : s.Inv) (hs : s.seq = .running)
    (hp : s.isPoll = false ∨ s.tcnt < s.latch.deadline) : State.PreInv { s.stepUnits with tcnt := s.tcnt + 1 } := by
  obtain ⟨hlc, hc, hon⟩ := h.in_flight (by simp [hs])
  have hl := h.loaded hs
  have hpoll : 1 ≤ s.params.pollTicks.toNat := by
    have := h.params
    simp [Config.Params.wellFormed] at this
    omega
  have hdl : 0 < s.latch.deadline := by
    have := hc.positive
    rw [hl.deadline, deadlineOf]
    omega
  have flight := hl.count_flight hc hon hs (State.tcnt_lt_lastPollTick hpoll hdl (h.bounded hs) hp)
    (h.generator hs) (h.stopped hs) (h.digitizer hs)
  have configured : State.Configured { s.stepUnits with tcnt := s.tcnt + 1 } :=
    hc.stepUnits.congr_units rfl rfl rfl rfl ⟨rfl, rfl, rfl⟩ rfl rfl
  have hso := h.sound.stepUnits
  exact ⟨.ready hlc hon.legal hon.defined configured flight, hso.params, hso.buffers, hso.result⟩

/-- The tick of the completing poll (R170). -/
theorem State.Inv.engine_complete {s : State} (h : s.Inv) (hs : s.seq = .running) (hd : s.readsDone = true) :
    (State.complete s.decodedBytes { s.stepUnits with tcnt := s.tcnt + 1 }).PreInv := by
  obtain ⟨hlc, hc, hon⟩ := h.in_flight (by simp [hs])
  have hl := h.loaded hs
  have hdone := (s.readsDone_iff.1 hd).1
  have hstop := (h.digitizer hs).generator_stopped hc hl (h.generator hs) hdone
  obtain ⟨stopped, done⟩ := State.stepUnits_stopped hstop hdone
  have configured : (State.complete s.decodedBytes { s.stepUnits with tcnt := s.tcnt + 1 }).Configured :=
    hc.stepUnits.congr_units rfl rfl rfl rfl ⟨rfl, rfl, rfl⟩ rfl rfl
  have hso := h.sound.stepUnits
  exact ⟨.ready hlc hon.legal hon.defined configured (.done rfl stopped done ⟨rfl, rfl⟩ rfl),
    State.Sound.complete (s := { s.stepUnits with tcnt := s.tcnt + 1 }) ⟨hso.params, hso.buffers, hso.result⟩
      (s.decodedBytes_length ▸ hl.bytes.2)⟩

/-- `DONE` lasts one tick (42_transfer_sequencer.md R170). -/
theorem State.Inv.engine_done {s : State} (h : s.Inv) (hs : s.seq = .done) :
    State.PreInv { s.stepUnits with seq := .idle } := by
  obtain ⟨hlc, hc, hon⟩ := h.in_flight (by simp [hs])
  obtain ⟨hstop, hdone, -⟩ := h.done hs
  obtain ⟨stopped, done⟩ := State.stepUnits_stopped hstop hdone
  have configured : State.Configured { s.stepUnits with seq := .idle } :=
    hc.stepUnits.congr_units rfl rfl rfl rfl ⟨rfl, rfl, rfl⟩ rfl rfl
  have hso := h.sound.stepUnits
  exact ⟨.ready hlc hon.legal hon.defined configured (.idle rfl stopped (.inr done)),
    hso.params, hso.buffers, hso.result⟩

/-- The engine keeps the invariant, the drawing of the unspecified items apart. -/
theorem State.Inv.engine_preInv {s : State} (h : s.Inv) : s.engine.PreInv := by
  have hso := h.sound.stepUnits
  have failing : s.seq ≠ .idle → ∀ e : ErrorEvent, e.losesSync = true → ∀ n, 
      (State.raise e { s.stepUnits with tcnt := n }).PreInv := fun hq e he n =>
    State.Sound.raise_losing (s := { s.stepUnits with tcnt := n }) ⟨hso.params, hso.buffers, hso.result⟩
      (h.in_flight hq).2.2.legal he
  rw [State.engine_eq_sequence_stepUnits]
  rcases s.sequence_cases s.stepUnits with ⟨hs, he⟩ | ⟨hs, -, he⟩ | ⟨hs, -, he⟩ | ⟨hs, -, he⟩ |
    ⟨hs, -, -, hd, he⟩ | ⟨hs, -, -, -, -, he⟩ | ⟨hs, -, hnp, he⟩ | ⟨hs, he⟩ <;> rw [he]
  · exact ⟨h.stage.stepUnits_idle hs, hso⟩
  · exact failing (by simp [hs]) .driver rfl s.tcnt
  · exact h.engine_start hs
  · exact failing (by simp [hs]) .driver rfl (s.tcnt + 1)
  · exact h.engine_complete hs hd
  · exact failing (by simp [hs]) .timeout rfl (s.tcnt + 1)
  · exact h.engine_count hs (hnp.imp_right And.right)
  · exact h.engine_done hs

/-! ### The step -/

/-- With no transfer in flight the engine stays in its lifecycle state. -/
theorem State.engine_idle_lc {s : State} (hs : s.seq = .idle) : s.engine.lc = s.lc ∧ s.engine.seq = .idle := by
  rw [s.engine_idle hs]
  exact ⟨rfl, hs⟩

theorem State.accepts_iff (s : State) (i : Instr) : s.accepts i = true ↔ s.seq = .idle ∧ acceptedIn i s.lc = true := by
  simp [State.accepts]

theorem State.writeTarget_eq_some {s : State} {a : Addr} {r : RegName} (h : s.writeTarget a = some r) :
    s.writable r = true := by
  unfold State.writeTarget at h
  split at h
  · split_ifs at h with hw
    · rwa [← Option.some.inj h]
  · cases h

/-- A register that may be written in this tick may be written after the engine's part of it too. -/
theorem State.Inv.engine_writable {s : State} (h : s.Inv) {r : RegName} (hw : s.writable r = true) :
    s.engine.writable r = true := by
  have hs : s.seq = .idle := by
    by_contra hq
    have hlc := h.busy hq
    cases r <;> simp [State.writable, hlc, hq] at hw
  obtain ⟨hlc, hseq⟩ := State.engine_idle_lc hs
  cases r <;> simp_all [State.writable]

theorem State.Inv.dataWrite_preInv {s : State} (h : s.Inv) (a : Addr) (d : Word) :
    (s.dataWrite a d s.engine).PreInv := by
  unfold State.dataWrite
  cases ht : s.writeTarget a with
  | none => exact h.engine_preInv.refuse
  | some r => exact (h.engine_preInv.setReg (h.engine_writable (State.writeTarget_eq_some ht)) d).accept

/-- What each command does when it is accepted. -/
def State.effect (i : Instr) (fault : Bool) (s : State) : State :=
  match i with
  | .construct => s.construct fault
  | .configure => s.configure fault
  | .transfer => s.transfer fault
  | .close => s.close

theorem exec_eq_command (i : Instr) (s : State) : exec i s = .next (s.command i (State.effect i s.driverFault)) := by
  cases i <;> rfl

/-- A command keeps the invariant in the states it is accepted in (30_encoding.md R85). -/
theorem State.PreInv.effect {s : State} (h : s.PreInv) {i : Instr} (hs : s.seq = .idle)
    (hlc : acceptedIn i s.lc = true) (fault : Bool) : (s.effect i fault).PreInv := by
  cases i with
  | construct => exact h.construct (by simpa [acceptedIn] using hlc) fault
  | configure => exact h.configure hs (by rintro hc; simp [acceptedIn, hc] at hlc) fault
  | transfer => exact h.transfer hs (by simpa [acceptedIn] using hlc) fault
  | close => exact h.close hs

theorem State.Inv.effect_preInv {s : State} (h : s.Inv) {i : Instr} (hacc : s.accepts i = true) (fault : Bool) :
    (s.engine.accept.effect i fault).PreInv := by
  obtain ⟨hs, hlc⟩ := (s.accepts_iff i).1 hacc
  obtain ⟨helc, hes⟩ := State.engine_idle_lc hs
  exact h.engine_preInv.accept.effect hes (by rw [State.accept_lc, helc, hlc]) fault

theorem State.Inv.exec_inv {s t : State} (h : s.Inv) {i : Instr} (he : exec i s = .next t) : t.Inv := by
  rw [exec_eq_command] at he
  cases he
  rcases s.command_cases i (State.effect i s.driverFault) with ⟨hacc, hcmd⟩ | ⟨-, hcmd⟩ <;> rw [hcmd]
  · exact State.PreInv.tick_inv (h.effect_preInv hacc _)
  · exact State.PreInv.tick_inv h.engine_preInv.refuse

/-- The invariant holds wherever everything but the parameters, the last pin levels and the model's own fields has its
reset value (10_state.md R32). -/
theorem State.Inv.of_reset {s : State} (hp : s.params.wellFormed = true)
    (hs : s = { State.reset with
      params := s.params, dig := Digitizer.resetKeeping s.dig.prev, fresh := s.fresh, born := s.born, host := s.host,
      env := s.env, rdata := s.rdata }) : s.Inv := by
  rw [hs]
  exact (State.Stage.closed rfl rfl rfl ⟨rfl, rfl⟩ ⟨rfl, rfl, rfl, rfl, rfl, rfl, rfl, rfl⟩).inv
    ⟨hp, ⟨rfl, rfl, rfl, rfl⟩, nofun⟩ nofun

/-- Settles O58: the engine keeps everything but the drawing of the unspecified items (`State.Inv.engine_preInv`), so
does what the host adds, and the end of the tick draws them (`State.PreInv.unspecify_inv`). -/
theorem invStep : Obligations.InvStep := by
  intro s t h hstep
  rcases step_cases hstep with ⟨-, rfl⟩ | ⟨-, -, rfl⟩ | ⟨-, i, -, he⟩ | ⟨-, -, rfl⟩ | ⟨-, a, d, -, rfl⟩
  · exact .of_reset h.params rfl
  · exact State.PreInv.tick_inv h.engine_preInv
  · exact h.exec_inv he
  · exact State.PreInv.tick_inv h.engine_preInv.refuse
  · exact State.PreInv.tick_inv (h.dataWrite_preInv a d)

/-! ### The words `STATUS` and `ERR` (10_state.md R20, R21) -/

/-- A field placed at bit `pos` of a word. -/
theorem field_getLsbD {width : Nat} (v : BitVec width) {pos k : Nat} (hk : k < 32) :
    (v.setWidth 32 <<< pos).getLsbD k = (decide (pos ≤ k) && v.getLsbD (k - pos)) := by
  have hle : (!decide (k < pos)) = decide (pos ≤ k) := by rw [← decide_not, decide_eq_decide, not_lt]
  simp only [BitVec.getLsbD_shiftLeft, BitVec.getLsbD_setWidth, hk, show k - pos < 32 by omega, hle, decide_true,
    Bool.true_and]

/-- The fields of `STATUS` at their positions. -/
theorem State.status_getLsbD (s : State) {k : Nat} (hk : k < 32) : s.status.getLsbD k =
    ((decide (14 ≤ k) && (BitVec.ofBool s.gen.running).getLsbD (k - 14)) ||
      (decide (12 ≤ k) && s.dig.st.code.getLsbD (k - 12)) ||
      (decide (10 ≤ k) && (BitVec.ofBool s.rej).getLsbD (k - 10)) ||
      (decide (9 ≤ k) && (BitVec.ofBool s.rxValid).getLsbD (k - 9)) ||
      (decide (8 ≤ k) && (BitVec.ofBool s.busy).getLsbD (k - 8)) ||
      (decide (4 ≤ k) && s.seq.code.getLsbD (k - 4)) || s.lc.code.getLsbD k) := by
  simp only [State.status, bitVal, BitVec.getLsbD_or, field_getLsbD _ hk, BitVec.getLsbD_setWidth, hk, decide_true,
    Bool.true_and]

theorem extractLsb'_eq_of_getLsbD {n width pos : Nat} {w : BitVec n} {v : BitVec width}
    (h : ∀ i, i < width → w.getLsbD (pos + i) = v.getLsbD i) : w.extractLsb' pos width = v := by
  apply BitVec.eq_of_getLsbD_eq
  intro i hi
  rw [BitVec.getLsbD_extractLsb', h i hi]
  simp [hi]

theorem State.status_lc (s : State) : s.status.extractLsb' 0 3 = s.lc.code :=
  extractLsb'_eq_of_getLsbD fun i hi => by
    interval_cases i <;> simp [-BitVec.getLsbD_eq_getElem, s.status_getLsbD]

theorem State.status_seq (s : State) : s.status.extractLsb' 4 2 = s.seq.code :=
  extractLsb'_eq_of_getLsbD fun i hi => by
    interval_cases i <;> simp [-BitVec.getLsbD_eq_getElem, s.status_getLsbD]

theorem State.status_dig (s : State) : s.status.extractLsb' 12 2 = s.dig.st.code :=
  extractLsb'_eq_of_getLsbD fun i hi => by
    interval_cases i <;> simp [-BitVec.getLsbD_eq_getElem, s.status_getLsbD]

theorem State.status_flags (s : State) : s.status.getLsbD 8 = s.busy ∧ s.status.getLsbD 9 = s.rxValid ∧
    s.status.getLsbD 10 = s.rej ∧ s.status.getLsbD 14 = s.gen.running := by
  simp [-BitVec.getLsbD_eq_getElem, s.status_getLsbD]

/-- The bits of no field read 0. -/
theorem State.status_zeros (s : State) : s.status.getLsbD 3 = false ∧ s.status.extractLsb' 6 2 = 0#2 ∧
    s.status.getLsbD 11 = false ∧ s.status.extractLsb' 15 17 = 0#17 := by
  refine ⟨?_, extractLsb'_eq_of_getLsbD fun i hi => ?_, ?_, extractLsb'_eq_of_getLsbD fun i hi => ?_⟩
  · simp [-BitVec.getLsbD_eq_getElem, s.status_getLsbD]
  · interval_cases i <;> simp [-BitVec.getLsbD_eq_getElem, s.status_getLsbD]
  · simp [-BitVec.getLsbD_eq_getElem, s.status_getLsbD]
  · interval_cases i <;> simp [-BitVec.getLsbD_eq_getElem, s.status_getLsbD]

theorem State.busy_iff (s : State) : s.busy = true ↔ s.seq ≠ .idle := by simp [State.busy]

/-- Settles O7, by the layout of `STATUS` bit by bit (`State.status_getLsbD`). -/
theorem statusAndErrWords : Obligations.StatusAndErrWords := by
  intro s
  obtain ⟨hbusy, hvalid, hrej, hrun⟩ := s.status_flags
  obtain ⟨h3, h6, h11, h15⟩ := s.status_zeros
  have hstatus : s.busRead 0x004 = s.status := rfl
  have herr : s.busRead 0x008 = s.err.code.setWidth 32 := rfl
  rw [hstatus, herr]
  refine ⟨?_, h3, ?_, h6, hbusy ▸ s.busy_iff, hvalid, hrej, h11, ?_, hrun, h15, ?_⟩
  · rw [s.status_lc]
    cases s.lc <;> rfl
  · rw [s.status_seq]
    cases s.seq <;> rfl
  · rw [s.status_dig]
    cases s.dig.st <;> rfl
  · cases s.err <;> rfl

/-! ### The state after reset -/

theorem params_wellFormed : Config.params.wellFormed = true := by
  have h1 := Config.fSysLessOne.isLt
  have h2 := Config.pollTicksLessOne.isLt
  simp only [Config.params, Config.Params.wellFormed, BitVec.toNat_ofNat, Bool.and_eq_true, decide_eq_true_eq]
  omega

/-- Settles O57: the invariant from the reset values, the widths by their being 0. -/
theorem invReset : Obligations.InvReset :=
  ⟨.of_reset params_wellFormed rfl, ⟨by decide, by decide, by decide, by decide, by decide⟩⟩

/-- The first tick after reset leaves its pin levels in `DIG.PREV` (10_state.md R28). -/
theorem State.reset_next_prev {t : State} (h : step State.reset = .next t) : t.dig.prev = State.reset.pinLevels := by
  rcases step_cases h with ⟨hr, -⟩ | ⟨-, -, rfl⟩ | ⟨-, i, hq, -⟩ | ⟨-, hq, -⟩ | ⟨-, a, d, hq, -⟩
  · cases hr
  · rw [State.tick, id, State.unspecify_dig, State.reset.engine_idle rfl]
    rfl
  · cases hq
  · cases hq
  · cases hq

/-- Settles O55: the values by definition, `DIG.PREV` by `State.reset_next_prev`. -/
theorem resetState : Obligations.ResetState := by
  refine ⟨rfl, rfl, rfl, rfl, rfl, rfl, rfl, rfl, rfl, rfl, rfl, rfl, rfl, ?_, rfl, rfl, rfl, rfl, rfl, rfl, rfl, rfl,
    rfl, rfl, rfl, rfl, fun t h => State.reset_next_prev h⟩
  rintro c (rfl | rfl | rfl) <;> rfl

/-! ### The result flag (10_state.md R22, 60_exceptions.md R275) -/

/-- The result flag keeps its value, and a result that is offered stays as it is. -/
structure State.KeepsResult (s t : State) : Prop where
  valid : t.rxValid = s.rxValid
  content : s.rxValid = true → t.rxFree = s.rxFree ∧ t.rxLen = s.rxLen ∧ t.rxbuf = s.rxbuf

theorem State.KeepsResult.of_eq {s t : State} (hv : t.rxValid = s.rxValid) (hf : t.rxFree = s.rxFree)
    (hl : t.rxLen = s.rxLen) (hb : t.rxbuf = s.rxbuf) : s.KeepsResult t := ⟨hv, fun _ => ⟨hf, hl, hb⟩⟩

theorem State.KeepsResult.trans {s t u : State} (h : s.KeepsResult t) (h' : t.KeepsResult u) : s.KeepsResult u where
  valid := h'.valid.trans h.valid
  content := fun hv => by
    obtain ⟨hf, hl, hb⟩ := h.content hv
    obtain ⟨hf', hl', hb'⟩ := h'.content (h.valid.trans hv)
    exact ⟨hf'.trans hf, hl'.trans hl, hb'.trans hb⟩

theorem State.keepsResult_refuse (s : State) : s.KeepsResult s.refuse := .of_eq rfl rfl rfl rfl

theorem State.keepsResult_accept (s : State) : s.KeepsResult s.accept := .of_eq rfl rfl rfl rfl

theorem State.keepsResult_setReg (s : State) (r : RegName) (d : Word) : s.KeepsResult (s.setReg r d) := by
  cases r <;> exact .of_eq rfl rfl rfl rfl

theorem State.keepsResult_dataWrite (s : State) (a : Addr) (d : Word) (t : State) :
    t.KeepsResult (s.dataWrite a d t) := by
  unfold State.dataWrite
  cases s.writeTarget a with
  | none => exact t.keepsResult_refuse
  | some r => exact (t.keepsResult_setReg r d).trans (State.keepsResult_accept _)

theorem State.keepsResult_construct (s : State) (fault : Bool) : s.KeepsResult (s.construct fault) := by
  unfold State.construct
  split_ifs <;> exact .of_eq rfl rfl rfl rfl

/-- CONFIGURE keeps the result, whether it succeeds or fails (41_configure.md R120, assumption log 13). -/
theorem State.keepsResult_configure (s : State) (fault : Bool) : s.KeepsResult (s.configure fault) := by
  unfold State.configure
  dsimp only
  split_ifs <;> exact .of_eq rfl rfl rfl rfl

/-- A TRANSFER keeps the result only if its request does not fit (42_transfer_sequencer.md R151). -/
theorem State.transfer_result (s : State) (fault : Bool) :
    s.KeepsResult (s.transfer fault) ∨ (s.overCapacity = false ∧ (s.transfer fault).rxValid = false) := by
  unfold State.transfer
  split_ifs with hc hf
  · exact .inl (.of_eq rfl rfl rfl rfl)
  · exact .inr ⟨by simpa using hc, rfl⟩
  · exact .inr ⟨by simpa using hc, rfl⟩

/-- The drawing of the unspecified items leaves a result that is offered alone. -/
theorem State.Sound.keepsResult_unspecify {s : State} (h : s.Sound) : s.KeepsResult s.unspecify where
  valid := rfl
  content := fun hv => by simp [(h.result hv).1]

/-- `t` offers the result that the completing poll of this tick gives, where none was offered (R170). -/
structure State.OffersResult (s t : State) : Prop where
  running : s.seq = .running
  poll : s.isPoll = true
  complete : s.dig.st = .done
  noResult : s.rxValid = false
  done : t.seq = .done

/-- Why a tick may withdraw a result: reset, CLOSE, or a TRANSFER that passes its capacity check. -/
def State.Withdraws (s : State) : Prop :=
  s.rst = true ∨ (s.busOp = .wr 0x000 4 ∧ s.accepts .close = true) ∨
    (s.busOp = .wr 0x000 3 ∧ s.accepts .transfer = true ∧ s.overCapacity = false)

theorem State.Inv.noResult_in_flight {s : State} (h : s.Inv) (hs : s.seq = .armed ∨ s.seq = .running) :
    s.rxValid = false := by
  rcases hs with hs | hs
  · exact (h.armed hs).1.noResult
  · exact (h.loaded hs).noResult

/-- What the engine does to the result: nothing, or the completing poll offers a new one. -/
theorem State.Inv.engine_result {s : State} (h : s.Inv) : s.KeepsResult s.engine ∨ s.OffersResult s.engine := by
  have losing : s.rxValid = false → ∀ t : State, t.rxValid = false → s.KeepsResult t := fun hv t ht =>
    ⟨ht.trans hv.symm, fun hv' => by simp [hv] at hv'⟩
  rw [State.engine_eq_sequence_stepUnits]
  rcases s.sequence_cases s.stepUnits with ⟨-, he⟩ | ⟨hs, -, he⟩ | ⟨-, -, he⟩ | ⟨hs, -, he⟩ |
    ⟨hs, -, hp, hd, he⟩ | ⟨hs, -, -, -, -, he⟩ | ⟨-, -, -, he⟩ | ⟨-, he⟩ <;> rw [he]
  · exact .inl (.of_eq rfl rfl rfl rfl)
  · exact .inl (losing (h.noResult_in_flight (.inl hs)) _ rfl)
  · exact .inl (.of_eq rfl rfl rfl rfl)
  · exact .inl (losing (h.noResult_in_flight (.inr hs)) _ rfl)
  · exact .inr ⟨hs, hp, (s.readsDone_iff.1 hd).1, h.noResult_in_flight (.inr hs), rfl⟩
  · exact .inl (losing (h.noResult_in_flight (.inr hs)) _ rfl)
  · exact .inl (.of_eq rfl rfl rfl rfl)
  · exact .inl (.of_eq rfl rfl rfl rfl)

/-- A tick in which the host's operation leaves the result and the sequencer alone. -/
theorem State.Inv.tick_result {s : State} (h : s.Inv) {op : State → State} (hpre : (op s.engine).PreInv)
    (hop : s.engine.KeepsResult (op s.engine)) (hseq : (op s.engine).seq = s.engine.seq) :
    s.KeepsResult (s.tick op) ∨ s.OffersResult (s.tick op) := by
  rcases h.engine_result with he | he
  · exact .inl ((he.trans hop).trans hpre.sound.keepsResult_unspecify)
  · exact .inr ⟨he.running, he.poll, he.complete, he.noResult, hseq.trans he.done⟩

/-- The tick of an accepted command, with no transfer in flight. -/
theorem State.Inv.accepted_result {s : State} (h : s.Inv) (hs : s.seq = .idle) {effect : State → State}
    (hpre : (effect s.engine.accept).PreInv) (hop : s.engine.accept.KeepsResult (effect s.engine.accept)) :
    s.KeepsResult (s.tick fun t => effect t.accept) := by
  rcases h.engine_result with he | he
  · exact ((he.trans s.engine.keepsResult_accept).trans hop).trans hpre.sound.keepsResult_unspecify
  · cases hs.symm.trans he.running

/-- A word is its two fields (30_encoding.md R80). -/
theorem zeroField_append_opcField (w : Word) : zeroField w ++ opcField w = w := by
  unfold zeroField opcField
  rw [BitVec.extractLsb'_append_extractLsb'_eq_extractLsb' (by decide)]
  exact BitVec.extractLsb'_eq_self

/-- A word that decodes to a command is that command's word (30_encoding.md R80). -/
theorem eq_encode_of_decode {w : Word} {i : Instr} (h : decode w = .ok i) : w = encode i := by
  unfold decode decodeOpcode at h
  split_ifs at h with hz ho ho ho ho <;> cases h <;> rw [← zeroField_append_opcField w, hz, ho] <;> rfl

/-- A request for a command is a write of its word to `CMD`. -/
theorem busOp_of_request {s : State} {i : Instr} (h : s.busOp.request = .command i) :
    s.busOp = .wr 0x000 (encode i) := by
  cases hb : s.busOp with
  | nop | rd a => simp [hb, BusOp.request] at h
  | wr a d =>
    simp only [hb, BusOp.request] at h
    split_ifs at h with ha
    cases hd : decode d with
    | ok j =>
      rw [hd] at h
      cases h
      rw [ha, eq_encode_of_decode hd]
      rfl
    | error e =>
      rw [hd] at h
      cases h

theorem State.engine_accept_overCapacity (s : State) : s.engine.accept.overCapacity = s.overCapacity := by
  unfold State.overCapacity State.reqSamples State.reqBits State.reqBytes State.reqErrClk
  rw [State.accept_xfer, State.engine_xfer]

/-- What an accepted command does to the result. -/
theorem State.effect_result {s : State} {i : Instr} (hb : s.busOp = .wr 0x000 (encode i)) (hacc : s.accepts i = true)
    (fault : Bool) : s.engine.accept.KeepsResult (s.engine.accept.effect i fault) ∨
      ((s.engine.accept.effect i fault).rxValid = false ∧ s.Withdraws) := by
  cases i with
  | construct => exact .inl (State.keepsResult_construct _ fault)
  | configure => exact .inl (State.keepsResult_configure _ fault)
  | transfer =>
    refine (State.transfer_result _ fault).imp_right fun ⟨hc, hv⟩ => ⟨hv, .inr (.inr ⟨hb, hacc, ?_⟩)⟩
    rwa [State.engine_accept_overCapacity] at hc
  | close => exact .inr ⟨rfl, .inr (.inl ⟨hb, hacc⟩)⟩

theorem State.Inv.exec_result {s t : State} (h : s.Inv) {i : Instr} (hq : s.busOp.request = .command i)
    (he : exec i s = .next t) : s.KeepsResult t ∨ s.OffersResult t ∨ (t.rxValid = false ∧ s.Withdraws) := by
  rw [exec_eq_command] at he
  cases he
  rcases s.command_cases i (State.effect i s.driverFault) with ⟨hacc, hcmd⟩ | ⟨-, hcmd⟩ <;> rw [hcmd]
  · rcases State.effect_result (busOp_of_request hq) hacc s.driverFault with hk | hw
    · exact .inl (h.accepted_result ((s.accepts_iff i).1 hacc).1 (h.effect_preInv hacc _) hk)
    · exact .inr (.inr hw)
  · exact (h.tick_result h.engine_preInv.refuse s.engine.keepsResult_refuse rfl).imp_right .inl

theorem State.dataWrite_seq (s : State) (a : Addr) (d : Word) (t : State) : (s.dataWrite a d t).seq = t.seq := by
  unfold State.dataWrite
  cases s.writeTarget a with
  | none => rfl
  | some r => cases r <;> rfl

/-- Everything a step does to the result. -/
theorem State.Inv.step_result {s t : State} (h : s.Inv) (hstep : step s = .next t) :
    s.KeepsResult t ∨ s.OffersResult t ∨ (t.rxValid = false ∧ s.Withdraws) := by
  rcases step_cases hstep with ⟨hr, rfl⟩ | ⟨-, -, rfl⟩ | ⟨-, i, hq, he⟩ | ⟨-, -, rfl⟩ | ⟨-, a, d, -, rfl⟩
  · exact .inr (.inr ⟨rfl, .inl hr⟩)
  · exact (h.tick_result (op := id) h.engine_preInv (.of_eq rfl rfl rfl rfl) rfl).imp_right .inl
  · exact h.exec_result hq he
  · exact (h.tick_result h.engine_preInv.refuse s.engine.keepsResult_refuse rfl).imp_right .inl
  · exact (h.tick_result (h.dataWrite_preInv a d) (s.keepsResult_dataWrite a d _) (s.dataWrite_seq a d _)).imp_right
      .inl

/-- Settles O50, by what a step does to the result (`State.Inv.step_result`). -/
theorem rxValidRule : Obligations.RxValidRule := by
  intro s t h hstep
  refine ⟨fun hs ht => ?_, fun hs ht => ?_, fun hs ht => ?_⟩ <;>
    rcases h.step_result hstep with hk | ho | ⟨hv, hw⟩
  · cases hk.valid.symm.trans ht |>.symm.trans hs
  · exact ⟨ho.running, ho.done, (s.isPoll_iff.1 ho.poll).2, ho.complete⟩
  · cases hv.symm.trans ht
  · cases hk.valid.symm.trans ht |>.symm.trans hs
  · cases ho.noResult.symm.trans hs
  · exact hw
  · obtain ⟨-, hl, hb⟩ := hk.content hs
    obtain ⟨-, -, hread⟩ := h.result hs
    refine ⟨hl, fun j hj => ?_⟩
    obtain ⟨v, hv⟩ := Option.ne_none_iff_exists'.1 (hread j hj)
    simp [State.rxByte, hb, hv]
  · cases ho.noResult.symm.trans hs
  · cases hv.symm.trans ht

end Sys2Proof.Machine

/-! ### Everything a tick can do, and the tick beside the same tick without the host's operation (20_memory.md R51) -/

namespace Sys2Proof.Machine

open Sys2Proof

/-- `t` differs from `s` in nothing but what a host write that is no accepted command may store: the operand registers,
`TXBUF` and `STATUS.REJ` (R59). -/
abbrev State.OperandsOnly (s t : State) : Prop :=
  t = { s with pins := t.pins, mode := t.mode, speed := t.speed, xfer := t.xfer, txbuf := t.txbuf, rej := t.rej }

theorem State.OperandsOnly.refl (s : State) : s.OperandsOnly s := rfl

theorem State.operandsOnly_refuse (s : State) : s.OperandsOnly s.refuse := rfl

theorem State.operandsOnly_dataWrite (s : State) (a : Addr) (d : Word) (t : State) :
    t.OperandsOnly (s.dataWrite a d t) := by
  unfold State.dataWrite
  cases s.writeTarget a with
  | none => rfl
  | some r => cases r <;> rfl

/-- Such a write stores nothing of the units. -/
theorem State.OperandsOnly.units {s t : State} (h : s.OperandsOnly t) : t.gen = s.gen ∧ t.dig = s.dig := by
  rw [h]
  exact ⟨rfl, rfl⟩

theorem State.OperandsOnly.inputs {s t : State} (h : s.OperandsOnly t) :
    t.env = s.env ∧ t.host = s.host ∧ t.params = s.params := by
  rw [h]
  exact ⟨rfl, rfl, rfl⟩

/-- The machine never stops (R51). -/
theorem step_total (s : State) : ∃ t, step s = .next t := by
  unfold step
  split_ifs
  · exact ⟨_, rfl⟩
  · cases s.busOp.request with
    | quiet => exact ⟨_, rfl⟩
    | command i => exact ⟨_, exec_eq_command i s⟩
    | illegal => exact ⟨_, rfl⟩
    | data a d => exact ⟨_, rfl⟩

/-- A step is a reset, the engine and the effect of an accepted command, or the engine and what a write that is no
accepted command may store. -/
theorem step_outcomes {s t : State} (h : step s = .next t) :
    (s.rst = true ∧ t = s.resetTick) ∨
    (∃ i, s.accepts i = true ∧ t = (s.engine.accept.effect i s.driverFault).unspecify) ∨
    (∃ u, s.engine.OperandsOnly u ∧ t = u.unspecify) := by
  rcases step_cases h with ⟨hr, rfl⟩ | ⟨-, -, rfl⟩ | ⟨-, i, -, he⟩ | ⟨-, -, rfl⟩ | ⟨-, a, d, -, rfl⟩
  · exact .inl ⟨hr, rfl⟩
  · exact .inr (.inr ⟨_, .refl _, rfl⟩)
  · rw [exec_eq_command] at he
    cases he
    rcases s.command_cases i (State.effect i s.driverFault) with ⟨hacc, hcmd⟩ | ⟨-, hcmd⟩ <;> rw [hcmd]
    · exact .inr (.inl ⟨i, hacc, rfl⟩)
    · exact .inr (.inr ⟨_, s.engine.operandsOnly_refuse, rfl⟩)
  · exact .inr (.inr ⟨_, s.engine.operandsOnly_refuse, rfl⟩)
  · exact .inr (.inr ⟨_, s.operandsOnly_dataWrite a d _, rfl⟩)

/-- No command touches the inputs to come, the host's lines to come or the parameters, and none starts the generator. -/
theorem State.effect_frame (s : State) (i : Instr) (fault : Bool) :
    ((s.effect i fault).env = s.env ∧ (s.effect i fault).host = s.host ∧ (s.effect i fault).params = s.params) ∧
      ((s.effect i fault).gen.running = true → s.gen.running = true) := by
  cases i with
  | construct =>
    unfold State.effect State.construct
    dsimp only
    split_ifs <;> exact ⟨⟨rfl, rfl, rfl⟩, id⟩
  | configure =>
    unfold State.effect State.configure
    dsimp only
    split_ifs <;> exact ⟨⟨rfl, rfl, rfl⟩, nofun⟩
  | transfer =>
    unfold State.effect State.transfer
    dsimp only
    split_ifs <;> exact ⟨⟨rfl, rfl, rfl⟩, id⟩
  | close => exact ⟨⟨rfl, rfl, rfl⟩, nofun⟩

/-- Settles O60, by the outcomes of a step: each uses up the inputs of the engine's part and keeps the parameters. -/
theorem everyTickHasANextState : Obligations.EveryTickHasANextState := by
  intro s
  obtain ⟨t, h⟩ := step_total s
  refine ⟨t, h, ?_⟩
  rcases step_outcomes h with ⟨-, rfl⟩ | ⟨i, -, rfl⟩ | ⟨u, hu, rfl⟩
  · exact ⟨rfl, rfl, rfl⟩
  · simpa using (s.engine.accept.effect_frame i s.driverFault).1
  · simpa using hu.inputs

theorem State.silent_tick (s : State) : s.silent.tick id = { s.tick id with rdata := none } := by
  rw [State.tick, id, silent_engine]
  rfl

theorem step_reset {s : State} (hr : s.rst = true) : step s = .next s.resetTick := if_pos hr

/-- Settles O5: with and without the read the tick is the engine's own or a reset, and only `h_rdata` differs
(`State.silent_tick`). -/
theorem readHasNoSideEffect : Obligations.ReadHasNoSideEffect := by
  intro s a hb
  have hread : s.hRdata = some (s.busRead a) := by rw [State.hRdata, hb]
  cases hr : s.rst with
  | true =>
    refine ⟨_, step_reset (s := s.silent) hr, ?_⟩
    rw [step_reset hr, State.resetTick, hread]
    rfl
  | false =>
    refine ⟨_, step_silent hr, ?_⟩
    have hstep : step s = .next (s.tick id) := by
      rw [step, hr, hb]
      rfl
    have hrdata : (s.tick id).rdata = some (s.busRead a) := s.engine_rdata.trans hread
    rw [hstep, State.silent_tick, ← hrdata]

/-- Beside a write, the tick without it is the engine's own. -/
theorem step_silent_of_write {s : State} {a : Addr} {d : Word} (hr : s.rst = false) (hb : s.busOp = .wr a d) :
    step s.silent = .next (s.tick id) := by
  have hrdata : (s.tick id).rdata = none := s.engine_rdata.trans (by rw [State.hRdata, hb])
  rw [step_silent hr, State.silent_tick, ← hrdata]

/-! ### The values of a read (10_state.md R13 to R23, 20_memory.md R56, R58) -/

/-- `MODE` on the bus, bit by bit (R14). -/
theorem ProtocolMode.toWord_getLsbD (m : ProtocolMode) (k : Nat) :
    m.toWord.getLsbD k = (decide (k = 0) && m.cpha || decide (k = 1) && m.cpol) := by
  by_cases hk : k < 32
  · rw [ProtocolMode.toWord, bitVal, bitVal, BitVec.getLsbD_or, field_getLsbD _ hk]
    simp only [BitVec.getLsbD_setWidth, BitVec.getLsbD_ofBool, hk]
    rcases k with - | - | k <;> simp
  · rw [BitVec.getLsbD_of_ge _ _ (by omega)]
    simp [show k ≠ 0 by omega, show k ≠ 1 by omega]

/-- The fields of `XFER` at their positions (R16). -/
theorem XferRegister.toWord_getLsbD (x : XferRegister) {k : Nat} (hk : k < 32) : x.toWord.getLsbD k =
    ((decide (16 ≤ k) && x.errClk.getLsbD (k - 16)) || (decide (9 ≤ k) && (BitVec.ofBool x.lsbRx).getLsbD (k - 9)) ||
      (decide (8 ≤ k) && (BitVec.ofBool x.lsbTx).getLsbD (k - 8)) || x.byteCount.getLsbD k) := by
  simp only [XferRegister.toWord, bitVal, BitVec.getLsbD_or, field_getLsbD _ hk, BitVec.getLsbD_setWidth, hk,
    decide_true, Bool.true_and]

theorem XferRegister.toWord_byteCount (x : XferRegister) : x.toWord.extractLsb' 0 7 = x.byteCount :=
  extractLsb'_eq_of_getLsbD fun i hi => by
    interval_cases i <;> simp [-BitVec.getLsbD_eq_getElem, x.toWord_getLsbD]

theorem XferRegister.toWord_errClk (x : XferRegister) : x.toWord.extractLsb' 16 10 = x.errClk :=
  extractLsb'_eq_of_getLsbD fun i hi => by
    interval_cases i <;> simp [-BitVec.getLsbD_eq_getElem, x.toWord_getLsbD]

theorem XferRegister.toWord_orders (x : XferRegister) :
    x.toWord.getLsbD 8 = x.lsbTx ∧ x.toWord.getLsbD 9 = x.lsbRx := by
  simp [-BitVec.getLsbD_eq_getElem, x.toWord_getLsbD]

/-- The bits of no field read 0. -/
theorem XferRegister.toWord_zeros (x : XferRegister) : x.toWord.getLsbD 7 = false ∧
    x.toWord.extractLsb' 10 6 = 0#6 ∧ x.toWord.extractLsb' 26 6 = 0#6 := by
  refine ⟨?_, extractLsb'_eq_of_getLsbD fun i hi => ?_, extractLsb'_eq_of_getLsbD fun i hi => ?_⟩
  · simp [-BitVec.getLsbD_eq_getElem, x.toWord_getLsbD]
  · interval_cases i <;> simp [-BitVec.getLsbD_eq_getElem, x.toWord_getLsbD]
  · interval_cases i <;> simp [-BitVec.getLsbD_eq_getElem, x.toWord_getLsbD]

theorem State.busRead_of_regAt (s : State) {a : Addr} {r : RegName} (h : regAt a = some r) :
    s.busRead a = s.regValue r := by rw [State.busRead, h]

theorem State.busRead_txbuf (s : State) {j : Nat} (hj : j < 64) :
    (s.busRead (BitVec.ofNat 12 (0x100 + 4 * j))).toNat = (s.txByte j).toNat := by
  rw [s.busRead_of_regAt (regAt_txbuf hj), State.regValue, BitVec.toNat_setWidth_of_le (by decide)]

theorem State.busRead_rxbuf (s : State) {j : Nat} (hj : j < 64) :
    (s.busRead (BitVec.ofNat 12 (0x200 + 4 * j))).toNat = (s.rxByte j).toNat := by
  rw [s.busRead_of_regAt (regAt_rxbuf hj), State.regValue, BitVec.toNat_setWidth_of_le (by decide)]

/-- A misaligned or unmapped address names nothing (R56, R58). -/
theorem regAt_eq_none {a : Addr} (h : a.toNat % 4 ≠ 0 ∨ (0x030 ≤ a.toNat ∧ a.toNat < 0x100) ∨ 0x300 ≤ a.toNat) :
    regAt a = none := by
  by_cases h4 : a.toNat % 4 = 0
  · rw [regAt_aligned h4, regAtWord_unmapped (by omega)]
  · exact regAt_misaligned h4

/-- Settles O6: each address by the address map, the bits of `MODE` and `XFER` by their layouts. -/
theorem readValues : Obligations.ReadValues := by
  intro s
  have hmode : s.busRead 0x010 = s.mode.toWord := rfl
  have hxfer : s.busRead 0x01C = s.xfer.toWord := rfl
  have hlen : s.busRead 0x020 = s.rxLen.setWidth 32 := rfl
  obtain ⟨h8, h9⟩ := s.xfer.toWord_orders
  obtain ⟨h7, h10, h26⟩ := s.xfer.toWord_zeros
  rw [hmode, hxfer, hlen]
  refine ⟨rfl, rfl, s.mode.toWord_getLsbD, rfl, rfl, s.xfer.toWord_byteCount, h7, h8, h9, h10, s.xfer.toWord_errClk, h26,
    BitVec.toNat_setWidth_of_le (by decide), rfl, rfl, rfl, fun j => s.busRead_txbuf, fun j => s.busRead_rxbuf,
    fun a ha => ?_⟩
  rw [State.busRead, regAt_eq_none ha]

/-! ### Host writes (20_memory.md R58, R59) -/

theorem State.writeTarget_of_regAt (s : State) {a : Addr} {r : RegName} (h : regAt a = some r)
    (hw : s.writable r = true) : s.writeTarget a = some r := by
  rw [State.writeTarget, h]
  exact if_pos hw

/-- The tick of an accepted data write, and the tick without it. -/
theorem step_accepted_write {s : State} {a : Addr} {d : Word} {r : RegName} (hr : s.rst = false)
    (hb : s.busOp = .wr a d) (ha : regAt a = some r) (hw : s.writable r = true) :
    step s.silent = .next (s.tick id) ∧ step s = .next (s.tick fun t => (t.setReg r d).accept) := by
  have hne : a ≠ 0 := by
    rintro rfl
    cases ha
    cases hw
  refine ⟨step_silent_of_write hr hb, ?_⟩
  rw [step_data hr hb hne, State.tick, State.dataWrite, s.writeTarget_of_regAt ha hw]
  rfl

/-- A write to entry `j` of `TXBUF` stores the low byte there and leaves every other entry alone (R17). -/
theorem State.tick_txbuf (s : State) {j : Nat} (hj : j < Config.bufEntries) (d : Word) (i : Nat) :
    (s.tick fun t => (t.setReg (.txbuf j) d).accept).txByte i = if i = j then d.extractLsb' 0 8 else s.txByte i := by
  have hbuf : (s.tick fun t => (t.setReg (.txbuf j) d).accept).txbuf =
      s.txbuf.write Config.bufEntries j (d.setWidth 8) := congrArg (Memory.write _ · j _) s.engine_txbuf
  have hborn : (s.tick fun t => (t.setReg (.txbuf j) d).accept).born = s.born := s.engine_born
  rw [State.txByte, hbuf, hborn]
  split_ifs with hi
  · rw [hi, Memory.read?_write_same _ _ _ hj, Option.getD_some, BitVec.setWidth_eq_extractLsb' (by decide)]
  · rw [Memory.read?_write_other _ _ _ hi, State.txByte]

/-- Settles O8: the tick of each accepted write is the engine's own with the register stored
(`step_accepted_write`). -/
theorem writeStoresRegister : Obligations.WriteStoresRegister := by
  intro s d hr
  have closed : s.lc = .closed → (s.lc == .closed) = true := by simp
  have idle : s.seq = .idle → (s.seq == .idle) = true := by simp
  refine ⟨fun hlc hb => ⟨_, step_accepted_write (r := .pins) hr hb rfl (closed hlc)⟩,
    fun hlc hb => ⟨_, step_accepted_write (r := .mode) hr hb rfl (closed hlc)⟩,
    fun hlc hb => ⟨_, step_accepted_write (r := .speed) hr hb rfl (closed hlc)⟩,
    fun hs hb => ⟨_, step_accepted_write (r := .xfer) hr hb rfl (idle hs)⟩, fun j hj hs hb => ?_⟩
  obtain ⟨hsilent, hstep⟩ := step_accepted_write hr hb (regAt_txbuf hj) (idle hs)
  refine ⟨_, _, hsilent, hstep, rfl, ?_, fun i hi => ?_⟩
  · rw [s.tick_txbuf hj, if_pos rfl]
  · rw [s.tick_txbuf hj, if_neg hi]

/-- While a transfer is in flight no register may be written. -/
theorem State.Inv.writeTarget_in_flight {s : State} (h : s.Inv) (hs : s.seq ≠ .idle) (a : Addr) :
    s.writeTarget a = none := by
  rw [writeTarget_none_iff]
  simp [h.busy hs, hs]

/-- While a transfer is in flight a write, to `CMD` or elsewhere, is a refusal (R59, 30_encoding.md R85, R86). -/
theorem State.Inv.step_write_in_flight {s : State} (h : s.Inv) (hr : s.rst = false) (hs : s.seq ≠ .idle) {a : Addr}
    {d : Word} (hb : s.busOp = .wr a d) : step s = .next (s.tick State.refuse) := by
  obtain ⟨t, ht⟩ := step_total s
  rw [ht]
  rcases step_cases ht with ⟨hrst, -⟩ | ⟨-, hq, -⟩ | ⟨-, i, -, he⟩ | ⟨-, -, rfl⟩ | ⟨-, a', d', -, rfl⟩
  · cases hr.symm.trans hrst
  · rw [hb, BusOp.request] at hq
    split_ifs at hq
    split at hq <;> cases hq
  · rw [exec_eq_command] at he
    cases he
    rcases s.command_cases i (State.effect i s.driverFault) with ⟨hacc, -⟩ | ⟨-, hcmd⟩
    · exact absurd ((s.accepts_iff i).1 hacc).1 hs
    · rw [hcmd]
  · rfl
  · rw [State.tick, State.dataWrite, h.writeTarget_in_flight hs]
    rfl

/-- Settles O10: the tick of the write is that of a refusal (`State.Inv.step_write_in_flight`). -/
theorem busyRefusesEveryWrite : Obligations.BusyRefusesEveryWrite := by
  intro s a d h hr hs hb
  exact ⟨_, step_silent_of_write hr hb, h.step_write_in_flight hr hs hb⟩

/-! ### The start of the generator (20_memory.md R62) -/

/-- The engine starts a stopped generator only in the tick of START. -/
theorem State.engine_starts {s : State} (hstop : s.gen.running = false) (hrun : s.engine.gen.running = true) :
    s.seq = .armed ∧ s.engine = s.stepUnits.start := by
  have hunits : s.stepUnits.gen.running = false := by
    rw [State.stepUnits, s.gen.tick_stopped hstop, hstop]
  rw [State.engine_eq_sequence_stepUnits] at hrun ⊢
  rcases s.sequence_cases s.stepUnits with ⟨-, he⟩ | ⟨-, -, he⟩ | ⟨hs, -, he⟩ | ⟨-, -, he⟩ | ⟨-, -, -, -, he⟩ |
    ⟨-, -, -, -, -, he⟩ | ⟨-, -, -, he⟩ | ⟨-, he⟩ <;> rw [he] at hrun ⊢
  case inr.inr.inl => exact ⟨hs, rfl⟩
  -- Every other branch of the sequencer leaves the generator as the units' step has it.
  all_goals cases hunits.symm.trans hrun

/-- Settles O29: only START starts the generator (`State.engine_starts`), and there the invariant has the digitizer armed
with its trigger not yet enabled, so that the tick leaves it armed. -/
theorem armedBeforeStart : Obligations.ArmedBeforeStart := by
  intro s t h hstep hstop hrun hio
  rcases step_outcomes hstep with ⟨-, rfl⟩ | ⟨i, hacc, rfl⟩ | ⟨u, hu, rfl⟩
  · cases hrun
  · rw [State.unspecify_gen, if_neg (by simpa using hio)] at hrun
    have hengine : s.engine.gen.running = true := (s.engine.accept.effect_frame i s.driverFault).2 hrun
    obtain ⟨harmed, -⟩ := State.engine_starts hstop hengine
    cases ((s.accepts_iff i).1 hacc).1.symm.trans harmed
  · obtain ⟨hgen, hdig⟩ := hu.units
    rw [State.unspecify_ioFree] at hio
    rw [State.unspecify_gen, hio, if_neg nofun, hgen] at hrun
    obtain ⟨harmed, hengine⟩ := State.engine_starts hstop hrun
    obtain ⟨-, -, hd, he⟩ := h.armed harmed
    refine ⟨harmed, hd, ?_⟩
    rw [State.unspecify_dig, hio, if_neg nofun, hdig, hengine, State.start, State.stepUnits,
      s.dig.tick_at_rest _ (by simp [hd]) fun _ => he]
    exact hd

/-! ### The pins the block drives (20_memory.md R52, 60_exceptions.md R278) -/

theorem PinAssignment.outputs_getLsbD (a : PinAssignment) {p : Nat} (hmosi : p ≠ a.mosi.toNat)
    (hsclk : p ≠ a.sclk.toNat) (hss : p ≠ a.ss.toNat) : a.outputs.getLsbD p = false := by
  simp [PinAssignment.outputs, pinMask_getLsbD, hmosi, hsclk, hss]

/-- With the digital I/O in its reset state no pin is driven. -/
theorem State.Released.dioOe {s : State} (h : s.Released) (hio : s.ioFree = false) : s.dioOe = 0 := by
  rw [State.dioOe, hio, h.1]
  rfl

/-- Only the three output pins of the assignment are ever driven. -/
theorem State.Inv.dioOe_outside_outputs {s : State} (h : s.Inv) {p : Nat} (hmosi : p ≠ s.pins.mosi.toNat)
    (hsclk : p ≠ s.pins.sclk.toNat) (hss : p ≠ s.pins.ss.toNat) : s.dioOe.getLsbD p = false := by
  have of_released : s.Released → s.ioFree = false → s.dioOe.getLsbD p = false := fun hrel hio => by
    rw [hrel.dioOe hio]
    exact BitVec.getLsbD_zero
  cases hio : s.ioFree with
  | true =>
    rw [State.dioOe, if_pos hio, BitVec.getLsbD_and, s.pins.outputs_getLsbD hmosi hsclk hss, Bool.and_false]
  | false =>
    cases h.stage with
    | closed lc seq io released | opened lc seq pins io released => exact of_released released io
    | failed lc seq pins released => exact of_released (released hio) hio
    | desync lc seq pins io => cases hio.symm.trans io
    | ready lc pins io configured =>
      rw [(configured.channelsOn io pins).dioOe]
      simp [hmosi, hsclk, hss]

/-- Settles O39: MISO is none of the three output pins of a legal assignment, and no other pin is driven. -/
theorem misoNeverDriven : Obligations.MisoNeverDriven := by
  intro s h hlc
  obtain ⟨⟨-, hmiso, -⟩, hmosi, -, -, hsclk, hss, -⟩ := s.pins.legal_iff.1 (h.pins hlc)
  have hoe := h.dioOe_outside_outputs hmosi.symm hsclk hss
  exact ⟨hoe, pinLevels_undriven s hoe hmiso, fun p => h.dioOe_outside_outputs⟩

/-! ### The environment on a driven pin (70_reset_and_hazards.md R328) -/

/-- The same state under other inputs to come. -/
def State.withEnv (s : State) (env : List EnvTick) : State := { s with env := env }

section Environment

variable {s : State} {e e' : EnvTick} {rest : List EnvTick}

theorem State.withEnv_rst (henv : s.env = e :: rest) (hrst : e'.rst = e.rst) :
    (s.withEnv (e' :: rest)).rst = s.rst := by
  have hs : s.rst = e.rst := by rw [State.rst, henv]
  exact hrst.trans hs.symm

theorem State.withEnv_fault (henv : s.env = e :: rest) (hfault : e'.fault = e.fault) :
    (s.withEnv (e' :: rest)).fault = s.fault := by
  have hs : s.fault = e.fault := by rw [State.fault, henv]
  exact hfault.trans hs.symm

/-- The snapshot takes the environment's level only where the block does not drive. -/
theorem State.withEnv_pinLevels (henv : s.env = e :: rest)
    (hext : ∀ p, s.dioOe.getLsbD p = false → e'.ext.getLsbD p = e.ext.getLsbD p) :
    (s.withEnv (e' :: rest)).pinLevels = s.pinLevels := by
  have hs : s.ext = e.ext := by rw [State.ext, henv]
  have hmasked : e'.ext &&& ~~~s.dioOe = s.ext &&& ~~~s.dioOe := by
    apply BitVec.eq_of_getLsbD_eq
    intro p hp
    cases hoe : s.dioOe.getLsbD p <;> simp [-BitVec.getLsbD_eq_getElem, hoe, hp, hs, hext]
  exact congrArg (s.dioOut &&& s.dioOe ||| ·) hmasked

/-- The sequencer reads of the environment only `fault_in`. -/
theorem State.withEnv_sequence {env : List EnvTick} (hfault : (s.withEnv env).fault = s.fault) (t : State) :
    (s.withEnv env).sequence t = s.sequence t := by
  have hdriver : (s.withEnv env).driverFault = s.driverFault := by rw [State.driverFault, hfault, State.driverFault]
  have hwithheld : (s.withEnv env).withheld = s.withheld := by rw [State.withheld, hfault, State.withheld]
  have hdone : (s.withEnv env).readsDone = s.readsDone := by
    rw [State.readsDone, hwithheld]
    rfl
  unfold State.sequence
  rw [hdriver, hdone]
  rfl

theorem State.withEnv_engine (henv : s.env = e :: rest) (hfault : e'.fault = e.fault)
    (hext : ∀ p, s.dioOe.getLsbD p = false → e'.ext.getLsbD p = e.ext.getLsbD p) :
    (s.withEnv (e' :: rest)).engine = s.engine := by
  have hunits : (s.withEnv (e' :: rest)).stepUnits = s.stepUnits := by
    rw [State.stepUnits, State.withEnv_pinLevels henv hext, State.stepUnits, henv]
    rfl
  rw [State.engine_eq_sequence_stepUnits, State.withEnv_sequence (State.withEnv_fault henv hfault), hunits,
    State.engine_eq_sequence_stepUnits]

end Environment

/-- Settles O40: the environment enters a tick by its reset line, `fault_in`, and the engine's snapshot of the pins. -/
theorem drivenPinsIgnoreTheEnvironment : Obligations.DrivenPinsIgnoreTheEnvironment := by
  intro s e e' rest henv hrst hfault hext
  change step (s.withEnv (e' :: rest)) = step s
  have hr := State.withEnv_rst henv hrst
  have hreset : (s.withEnv (e' :: rest)).resetTick = s.resetTick := by
    rw [State.resetTick, State.resetTick, henv]
    rfl
  have htick : ∀ op, (s.withEnv (e' :: rest)).tick op = s.tick op := fun op => by
    rw [State.tick, State.withEnv_engine henv hfault hext, State.tick]
  have hexec : ∀ i, exec i (s.withEnv (e' :: rest)) = exec i s := fun i => by
    rw [exec_eq_command, State.driverFault, State.withEnv_fault henv hfault, State.command, htick, exec_eq_command]
    rfl
  have hbus : (s.withEnv (e' :: rest)).busOp = s.busOp := rfl
  have hwrite : ∀ a d, (s.withEnv (e' :: rest)).dataWrite a d = s.dataWrite a d := fun _ _ => rfl
  simp only [step, hr, hreset, hbus, htick, hexec, hwrite]

end Sys2Proof.Machine

/-! ### The command words and the decoder (30_encoding.md R80 to R86) -/

namespace Sys2Proof.Machine

open Sys2Proof

/-- Settles O1, from the table of the opcodes (R81 to R84). -/
theorem commandWords : Obligations.CommandWords :=
  ⟨rfl, rfl, rfl, rfl, rfl, rfl, rfl, rfl⟩

/-- The decoder returns every command from its word. -/
theorem decode_encode (i : Instr) : decode (encode i) = .ok i := by
  cases i <;> rfl

/-- The decoder accepts a word exactly when it is that command's word. -/
theorem decode_eq_ok_iff (w : Word) (i : Instr) : decode w = .ok i ↔ w = encode i :=
  ⟨eq_encode_of_decode, fun h => h ▸ decode_encode i⟩

/-- The fields of a command's word. -/
theorem fields_encode (i : Instr) : zeroField (encode i) = 0 ∧ opcField (encode i) = i.opcode := by
  cases i <;> exact ⟨rfl, rfl⟩

/-- A word is a command's word exactly when its two fields are that command's. -/
theorem eq_encode_iff (w : Word) (i : Instr) : w = encode i ↔ zeroField w = 0 ∧ opcField w = i.opcode := by
  constructor
  · rintro rfl
    exact fields_encode i
  · rintro ⟨hz, ho⟩
    rw [← zeroField_append_opcField w, hz, ho, encode]

/-- The opcodes of the commands are the bytes 1 to 4 (R81 to R84, R86). -/
theorem exists_opcode_iff (opc : Byte) : (∃ i : Instr, opc = i.opcode) ↔ 1 ≤ opc.toNat ∧ opc.toNat ≤ 4 := by
  constructor
  · rintro ⟨i, rfl⟩
    cases i <;> decide
  · rintro ⟨h1, h4⟩
    have of_toNat : ∀ i : Instr, opc.toNat = i.opcode.toNat → ∃ i : Instr, opc = i.opcode := fun i h =>
      ⟨i, BitVec.eq_of_toNat_eq h⟩
    obtain h | h | h | h : opc.toNat = 1 ∨ opc.toNat = 2 ∨ opc.toNat = 3 ∨ opc.toNat = 4 := by omega
    · exact of_toNat .construct h
    · exact of_toNat .configure h
    · exact of_toNat .transfer h
    · exact of_toNat .close h

/-- The legal words (R86). -/
theorem exists_decode_iff (w : Word) :
    (∃ i, decode w = .ok i) ↔ zeroField w = 0 ∧ 1 ≤ (opcField w).toNat ∧ (opcField w).toNat ≤ 4 := by
  simp only [decode_eq_ok_iff, eq_encode_iff, exists_and_left, exists_opcode_iff]

/-- Reading a whole bus word is decoding it. -/
theorem decodeTableWord_eq_some_iff (w : Word) (i : Instr) :
    decodeTableWord 32 w.toNat = some i ↔ decode w = .ok i := by
  rw [decodeTableWord, Nat.mod_eq_of_lt w.isLt, BitVec.ofNat_toNat, BitVec.setWidth_eq]
  cases decode w <;> simp

/-- Settles O2: the commands' words are the words of the legal fields (`eq_encode_iff`), and the decoder accepts those
(`decode_eq_ok_iff`). -/
theorem decodeEncodeAgree : Obligations.DecodeEncodeAgree :=
  ⟨decode_encode, fun _ _ => eq_encode_of_decode, exists_decode_iff, decodeTableWord_eq_some_iff⟩

/-! ### The tick of a command (30_encoding.md R85, R86) -/

/-- A refusal adds only `STATUS.REJ <- 1` to the engine's own tick: what is drawn at the tick's end does not depend on
it. -/
theorem State.tick_refuse (s : State) : s.tick State.refuse = { s.tick id with rej := true } := rfl

/-- The lifecycle states of each command's row, written out (R85). -/
theorem acceptedIn_iff (i : Instr) (lc : Lifecycle) : acceptedIn i lc = true ↔
    (i = .construct ∧ lc = .closed) ∨
    (i = .configure ∧ (lc = .opened ∨ lc = .ready ∨ lc = .desync)) ∨
    (i = .transfer ∧ lc = .ready) ∨
    (i = .close ∧ (lc = .opened ∨ lc = .ready ∨ lc = .failed ∨ lc = .desync)) := by
  cases i <;> cases lc <;> decide

/-- No command's effect touches `STATUS.REJ`. -/
theorem State.effect_rej (s : State) (i : Instr) (fault : Bool) : (s.effect i fault).rej = s.rej := by
  cases i with
  | construct =>
    unfold State.effect State.construct
    dsimp only
    split_ifs <;> rfl
  | configure =>
    unfold State.effect State.configure
    dsimp only
    split_ifs <;> rfl
  | transfer =>
    unfold State.effect State.transfer
    dsimp only
    split_ifs <;> rfl
  | close => rfl

theorem exec_refused {s : State} {i : Instr} (h : ¬ s.accepts i = true) :
    exec i s = .next { s.tick id with rej := true } := by
  rcases s.command_cases i (State.effect i s.driverFault) with ⟨hacc, -⟩ | ⟨-, hcmd⟩
  · exact absurd hacc h
  · rw [exec_eq_command, hcmd, State.tick_refuse]

theorem exec_accepted {s : State} {i : Instr} (h : s.accepts i = true) :
    exec i s = .next (s.tick fun t => t.accept.effect i s.driverFault) := by
  rcases s.command_cases i (State.effect i s.driverFault) with ⟨-, hcmd⟩ | ⟨hacc, -⟩
  · rw [exec_eq_command, hcmd]
  · cases h.symm.trans hacc

/-- Settles O4: acceptance by its table (`acceptedIn_iff`), and no effect sets `STATUS.REJ` again
(`State.effect_rej`). -/
theorem commandAcceptance : Obligations.CommandAcceptance := by
  intro s i
  rw [← acceptedIn_iff, ← State.accepts_iff]
  refine ⟨exec_refused, fun hacc => ⟨_, exec_accepted hacc, ?_⟩⟩
  rw [State.tick, State.unspecify_rej, State.effect_rej, State.accept_rej]

/-- A write of a legal word to `CMD` runs its command. -/
theorem step_command {s : State} {w : Word} {i : Instr} (hr : s.rst = false) (hb : s.busOp = .wr cmdAddr w)
    (hd : decode w = .ok i) : step s = exec i s := by
  have hq : s.busOp.request = .command i := by rw [hb, BusOp.request, if_pos rfl, hd]
  rw [step, hr, hq]
  rfl

/-- A write of an illegal word to `CMD` is refused (R86). -/
theorem step_illegal {s : State} {w : Word} {e : DecodeError} (hr : s.rst = false) (hb : s.busOp = .wr cmdAddr w)
    (hd : decode w = .error e) : step s = .next (s.tick State.refuse) := by
  have hq : s.busOp.request = .illegal := by rw [hb, BusOp.request, if_pos rfl, hd]
  rw [step, hr, hq]
  rfl

theorem State.withFetchWord_rst (s : State) (nbits w : Nat) : (s.withFetchWord nbits w).rst = false := by
  rw [State.withFetchWord, State.withCommandWord, State.rst]
  cases s.env <;> rfl

/-- A whole bus word is what the host writes to `CMD` next. -/
theorem State.withFetchWord_busOp (s : State) (w : Word) : (s.withFetchWord 32 w.toNat).busOp = .wr cmdAddr w := by
  rw [State.withFetchWord, Nat.mod_eq_of_lt w.isLt, BitVec.ofNat_toNat, BitVec.setWidth_eq]
  rfl

/-- Settles O3, by the tick of a write to `CMD` (`step_command`, `step_illegal`); `withFetchWord` makes one of the
next tick. -/
theorem stepRunsDecodedCommand : Obligations.StepRunsDecodedCommand := by
  intro s w hr hb
  refine ⟨fun i hd => step_command hr hb hd, fun e hd => ?_, fun i => ?_⟩
  · rw [step_illegal hr hb hd, State.tick_refuse]
  · exact step_command (s.withFetchWord_rst _ _) (s.withFetchWord_busOp _) (decode_encode i)

end Sys2Proof.Machine

/-! ### CONSTRUCT and CLOSE (40_lifecycle_commands.md) -/

namespace Sys2Proof.Machine

open Sys2Proof

/-- With no transfer in flight and outside the unspecified condition the engine is at rest. -/
theorem State.Inv.engine_at_rest {s : State} (h : s.Inv) (hs : s.seq = .idle) (hio : s.ioFree = false) :
    s.engine = s.restTick := by
  obtain ⟨hstop, hdig⟩ := h.stage.at_rest hs hio
  have hnot : s.dig.st ≠ .running ∧ s.dig.st ≠ .armed := by rcases hdig with hdig | hdig <;> simp [hdig]
  rw [s.engine_idle hs, s.gen.tick_stopped hstop, s.dig.tick_at_rest_of_ready_or_done _ hdig,
    s.dig.store_at_rest _ _ hnot.1 (absurd · hnot.2)]
  rfl

/-- The checks of CONSTRUCT on the pins, written out (R101, R102). -/
theorem PinAssignment.legal_iff_inRange_distinct (p : PinAssignment) : p.legal = true ↔
    (p.mosi.toNat ≤ 15 ∧ p.miso.toNat ≤ 15 ∧ p.sclk.toNat ≤ 15 ∧ p.ss.toNat ≤ 15) ∧
      p.mosi ≠ p.miso ∧ p.mosi ≠ p.sclk ∧ p.mosi ≠ p.ss ∧ p.miso ≠ p.sclk ∧ p.miso ≠ p.ss ∧ p.sclk ≠ p.ss := by
  simp [PinAssignment.legal, PinAssignment.inRange, PinAssignment.distinct, and_assoc]

theorem State.construct_legal {s : State} {fault : Bool} (hp : s.pins.legal = true) (hf : fault = false) :
    s.construct fault = { s with lc := .opened, err := .none } := by
  obtain ⟨hr, hd⟩ : s.pins.inRange = true ∧ s.pins.distinct = true := by simpa [PinAssignment.legal] using hp
  rw [State.construct, hr, hd, hf]
  rfl

/-- A CONSTRUCT that fails records the error and changes nothing else, whichever check it is that fails. -/
theorem State.construct_fails {s : State} {fault : Bool} (hs : s.seq = .idle)
    (h : s.pins.legal = false ∨ fault = true) : s.construct fault = { s with err := .configuration } := by
  have raised : s.raise .construct = { s with err := .configuration } := by
    rw [State.raise, ← hs]
    rfl
  unfold State.construct
  split_ifs with hr hd hf
  · exact raised
  · exact raised
  · exact raised
  · simp_all [PinAssignment.legal]

/-- In `CLOSED` nothing is unspecified and the engine is at rest, so the tick of a CONSTRUCT is its effect alone. -/
theorem State.Inv.exec_construct {s : State} (h : s.Inv) (hlc : s.lc = .closed) {t : State} (hio : t.ioFree = s.ioFree)
    (hrx : t.rxFree = s.rxFree) (he : s.restTick.accept.construct s.driverFault = t) :
    exec .construct s = .next t := by
  have hs := h.seq_idle (by simp [hlc])
  have hio' := h.defined (by simp [hlc]) (by simp [hlc])
  obtain ⟨-, -, -, -, -, hrx', -⟩ := h.untimed (.inl hlc)
  have hacc : s.accepts .construct = true := (s.accepts_iff _).2 ⟨hs, by simp [acceptedIn, hlc]⟩
  rw [exec_accepted hacc, State.tick, h.engine_at_rest hs hio', State.effect, he,
    State.unspecify_nothing (hio.trans hio') (hrx.trans hrx')]

/-- Settles O11: the pins are legal (`PinAssignment.legal_iff_inRange_distinct`), and the engine is at rest. -/
theorem constructOpens : Obligations.ConstructOpens := by
  intro s h hlc h1 h2 h3 h4 d1 d2 d3 d4 d5 d6 hf
  have hp : s.pins.legal = true :=
    s.pins.legal_iff_inRange_distinct.2 ⟨⟨h1, h2, h3, h4⟩, d1, d2, d3, d4, d5, d6⟩
  exact h.exec_construct hlc rfl rfl (State.construct_legal (s := s.restTick.accept) hp hf)

/-- Settles O12: each of the causes makes the pins illegal or is the driver's (`State.construct_fails`). -/
theorem constructFails : Obligations.ConstructFails := by
  intro s h hlc hcause
  have hfails : s.pins.legal = false ∨ s.driverFault = true := by
    rw [Bool.eq_false_iff, ne_eq, s.pins.legal_iff_inRange_distinct]
    simp only [← not_le] at hcause
    tauto
  exact h.exec_construct hlc rfl rfl (State.construct_fails (s := s.restTick.accept) (h.seq_idle (by simp [hlc])) hfails)

theorem State.accepts_close_iff (s : State) : s.accepts .close = true ↔ s.seq = .idle ∧ s.lc ≠ .closed := by
  rw [s.accepts_iff]
  cases s.lc <;> simp [acceptedIn]

/-- With the digital I/O in its reset state no pin is given a level. -/
theorem State.Released.dioOut {s : State} (h : s.Released) (hio : s.ioFree = false) : s.dioOut = 0 := by
  have houtMask : s.outMask Channel.reset = 0 := ite_self 0
  rw [State.dioOut, hio, h.1]
  simp [Generator.reset, houtMask]

/-- The operand registers may be written again in `CLOSED` with no transfer in flight (R105). -/
theorem State.writable_operand {s : State} (hlc : s.lc = .closed) (hs : s.seq = .idle) {r : RegName}
    (hr : r = .pins ∨ r = .mode ∨ r = .speed ∨ r = .xfer ∨ ∃ j, r = .txbuf j) : s.writable r = true := by
  rcases hr with rfl | rfl | rfl | rfl | ⟨j, rfl⟩ <;> simp [State.writable, hlc, hs]

/-- `STATUS` of an engine that is closed, at rest and without a refusal reads 0 (10_state.md R20). -/
theorem State.Released.status_eq_zero {s : State} (h : s.Released) (hlc : s.lc = .closed) (hs : s.seq = .idle)
    (hrej : s.rej = false) (hrx : s.rxValid = false) : s.status = 0 := by
  have hdig : s.dig.st = .ready := congrArg Digitizer.st h.2
  rw [State.status, State.busy, h.1, hdig, hlc, hs, hrej, hrx]
  decide

/-- The tick of an accepted CLOSE: nothing is unspecified after it (R105). -/
theorem State.exec_close {s : State} (hs : s.seq = .idle) (hlc : s.lc ≠ .closed) :
    exec .close s = .next s.engine.accept.close := by
  rw [exec_accepted (s.accepts_close_iff.2 ⟨hs, hlc⟩)]
  exact congrArg _ (State.unspecify_nothing rfl rfl)

/-- Settles O13: the tick of an accepted CLOSE (`State.exec_close`), which leaves the digital I/O in its reset state. -/
theorem closeReleases : Obligations.CloseReleases := by
  intro s
  refine ⟨fun hs hlc => ⟨_, State.exec_close hs hlc, ?_⟩, fun h => exec_refused ?_⟩
  · have hseq : s.engine.accept.close.seq = .idle := (State.engine_idle_lc hs).2
    have released : s.engine.accept.close.Released := ⟨rfl, rfl⟩
    have hprev : s.engine.dig.prev = s.pinLevels := by
      rw [s.engine_idle hs]
      exact s.dig.tick_prev _
    refine ⟨rfl, hseq, rfl, rfl, rfl, rfl, rfl, rfl, rfl, rfl, rfl, rfl, congrArg _ hprev, rfl, s.engine_pins,
      s.engine_mode, s.engine_speed, s.engine_xfer, s.engine_txbuf, s.engine_params, rfl, rfl, rfl,
      released.dioOe rfl, released.dioOut rfl, fun r => State.writable_operand rfl hseq, ?_⟩
    exact released.status_eq_zero rfl hseq rfl rfl
  · rw [s.accepts_close_iff]
    tauto

/-! ### The lifecycle (40_lifecycle_commands.md R100, R103) -/

/-- A step is a reset, the tick of an accepted command, a tick to which the host adds nothing or a refusal, or the tick
of a data write. -/
theorem step_ticks {s t : State} (h : step s = .next t) :
    (s.rst = true ∧ t = s.resetTick) ∨
    (∃ i, s.busOp = .wr 0x000 (encode i) ∧ s.accepts i = true ∧
      t = s.tick fun u => u.accept.effect i s.driverFault) ∨
    t = s.tick id ∨ t = s.tick State.refuse ∨ ∃ a d, t = s.tick (s.dataWrite a d) := by
  rcases step_cases h with ⟨hr, rfl⟩ | ⟨-, -, rfl⟩ | ⟨-, i, hq, he⟩ | ⟨-, -, rfl⟩ | ⟨-, a, d, -, rfl⟩
  · exact .inl ⟨hr, rfl⟩
  · exact .inr (.inr (.inl rfl))
  · rw [exec_eq_command] at he
    cases he
    rcases s.command_cases i (State.effect i s.driverFault) with ⟨hacc, hcmd⟩ | ⟨-, hcmd⟩
    · exact .inr (.inl ⟨i, busOp_of_request hq, hacc, hcmd⟩)
    · exact .inr (.inr (.inr (.inl hcmd)))
  · exact .inr (.inr (.inr (.inl rfl)))
  · exact .inr (.inr (.inr (.inr ⟨a, d, rfl⟩)))

/-- What the engine does to `LC`: nothing, or an error in flight leads to `DESYNC` (60_exceptions.md R275). -/
theorem State.engine_lc (s : State) : s.engine.lc = s.lc ∨
    (s.seq ≠ .idle ∧ s.engine.lc = .desync ∧ (s.engine.err = .timeout ∨ s.engine.err = .driver)) := by
  rw [State.engine_eq_sequence_stepUnits]
  rcases s.sequence_cases s.stepUnits with ⟨-, he⟩ | ⟨hs, -, he⟩ | ⟨-, -, he⟩ | ⟨hs, -, he⟩ | ⟨-, -, -, -, he⟩ |
    ⟨hs, -, -, -, -, he⟩ | ⟨-, -, -, he⟩ | ⟨-, he⟩ <;> rw [he]
  · exact .inl rfl
  · exact .inr ⟨by simp [hs], rfl, .inr rfl⟩
  · exact .inl rfl
  · exact .inr ⟨by simp [hs], rfl, .inr rfl⟩
  · exact .inl rfl
  · exact .inr ⟨by simp [hs], rfl, .inl rfl⟩
  · exact .inl rfl
  · exact .inl rfl

/-- An accepted CONFIGURE before its checks: the digital I/O in its reset state, `F_SYS` latched (41_configure.md
R120). -/
def State.prepared (s : State) : State :=
  { s.resetDigitalIO with tSysclk := s.params.fSys, pat := [], smp := [] }

/-- Everything an accepted command can do: the ways each can fail, and its success. -/
theorem State.effect_cases (s : State) (i : Instr) (fault : Bool) :
    (i = .construct ∧
      (s.effect i fault = s.raise .construct ∨ s.effect i fault = { s.succeed with lc := .opened })) ∨
    (i = .configure ∧
      (s.effect i fault = s.prepared.configureFails ∨ s.effect i fault = s.prepared.configureFails.indeterminate ∨
        s.effect i fault = s.prepared.program)) ∨
    (i = .transfer ∧
      (s.effect i fault = s.raise .capacity ∨ s.effect i fault = s.raise .driver ∨ s.effect i fault = s.load)) ∨
    (i = .close ∧ s.effect i fault = s.close) := by
  cases i with
  | construct =>
    refine .inl ⟨rfl, ?_⟩
    unfold State.effect State.construct
    dsimp only
    split_ifs
    · exact .inl rfl
    · exact .inl rfl
    · exact .inl rfl
    · exact .inr rfl
  | configure =>
    refine .inr (.inl ⟨rfl, ?_⟩)
    unfold State.effect State.configure
    dsimp only
    split_ifs
    · exact .inl rfl
    · exact .inl rfl
    · exact .inr (.inl rfl)
    · exact .inr (.inr rfl)
  | transfer =>
    refine .inr (.inr (.inl ⟨rfl, ?_⟩))
    unfold State.effect State.transfer
    dsimp only
    split_ifs
    · exact .inl rfl
    · exact .inr (.inl rfl)
    · exact .inr (.inr rfl)
  | close => exact .inr (.inr (.inr ⟨rfl, rfl⟩))

/-- What command `i` leaves in `LC` and `ERR` when it changes `LC` (R100). -/
def CommandLeaves (i : Instr) (lc : Lifecycle) (err : ErrCode) : Prop :=
  match i with
  | .construct => lc = .opened ∧ err = .none
  | .configure => (lc = .ready ∧ err = .none) ∨ (lc = .failed ∧ err = .configuration)
  | .transfer => lc = .desync ∧ err = .driver
  | .close => lc = .closed ∧ err = .none

theorem State.effect_lc (s : State) (i : Instr) (fault : Bool) :
    (s.effect i fault).lc = s.lc ∨ CommandLeaves i (s.effect i fault).lc (s.effect i fault).err := by
  rcases s.effect_cases i fault with ⟨rfl, he | he⟩ | ⟨rfl, he | he | he⟩ | ⟨rfl, he | he | he⟩ | ⟨rfl, he⟩ <;> rw [he]
  · exact .inl rfl
  · exact .inr ⟨rfl, rfl⟩
  · exact .inr (.inr ⟨rfl, rfl⟩)
  · exact .inr (.inr ⟨rfl, rfl⟩)
  · exact .inr (.inl ⟨rfl, rfl⟩)
  · exact .inl rfl
  · exact .inr ⟨rfl, rfl⟩
  · exact .inl rfl
  · exact .inr ⟨rfl, rfl⟩

theorem State.OperandsOnly.lc_err {s t : State} (h : s.OperandsOnly t) : t.lc = s.lc ∧ t.err = s.err := by
  rw [h]
  exact ⟨rfl, rfl⟩

/-- Everything a step does to `LC`: nothing, a reset, an error in flight, or an accepted command. -/
theorem State.Inv.step_lc {s t : State} (h : s.Inv) (hstep : step s = .next t) : t.lc = s.lc ∨
    (s.rst = true ∧ t.lc = .closed) ∨
    (s.lc = .ready ∧ s.seq ≠ .idle ∧ t.lc = .desync ∧ (t.err = .timeout ∨ t.err = .driver)) ∨
    ∃ i, s.busOp = .wr 0x000 (encode i) ∧ acceptedIn i s.lc = true ∧ CommandLeaves i t.lc t.err := by
  have of_engine : ∀ op : State → State, (op s.engine).lc = s.engine.lc ∧ (op s.engine).err = s.engine.err →
      (s.tick op).lc = s.lc ∨ (s.lc = .ready ∧ s.seq ≠ .idle ∧ (s.tick op).lc = .desync ∧
        ((s.tick op).err = .timeout ∨ (s.tick op).err = .driver)) := fun op ⟨hlc, herr⟩ => by
    rw [State.tick, State.unspecify_lc, State.unspecify_err, hlc, herr]
    exact s.engine_lc.imp_right fun ⟨hs, hd⟩ => ⟨h.busy hs, hs, hd⟩
  rcases step_ticks hstep with ⟨hr, rfl⟩ | ⟨i, hb, hacc, rfl⟩ | rfl | rfl | ⟨a, d, rfl⟩
  · exact .inr (.inl ⟨hr, rfl⟩)
  · obtain ⟨hs, hlc⟩ := (s.accepts_iff i).1 hacc
    rcases s.engine.accept.effect_lc i s.driverFault with he | he
    · exact .inl (he.trans (State.engine_idle_lc hs).1)
    · exact .inr (.inr (.inr ⟨i, hb, hlc, he⟩))
  · exact (of_engine id ⟨rfl, rfl⟩).imp_right fun hd => .inr (.inl hd)
  · exact (of_engine State.refuse ⟨rfl, rfl⟩).imp_right fun hd => .inr (.inl hd)
  · exact (of_engine _ (s.operandsOnly_dataWrite a d _).lc_err).imp_right fun hd => .inr (.inl hd)

/-- Settles O14, by what a step does to `LC` (`State.Inv.step_lc`) and the rows a command is accepted in. -/
theorem lifecycleTable : Obligations.LifecycleTable := by
  intro s t h hstep hne
  rcases h.step_lc hstep with hsame | hreset | ⟨hlc, hs, hd, herr⟩ | ⟨i, hb, hacc, ho⟩
  · exact absurd hsame hne
  · exact .inl hreset
  · exact .inr (.inr (.inr (.inr (.inl ⟨hlc, hd, .inl hs, herr⟩))))
  · cases i with
    | construct =>
      obtain ⟨hlc, herr⟩ := ho
      exact .inr (.inl ⟨by simpa [acceptedIn] using hacc, hlc, hb, herr⟩)
    | configure =>
      have hrow : s.lc = .opened ∨ s.lc = .ready ∨ s.lc = .desync := by simpa [acceptedIn, or_assoc] using hacc
      rcases ho with ⟨hlc, herr⟩ | ⟨hlc, herr⟩
      · have hnot : s.lc ≠ .ready := fun hready => hne (hlc.trans hready.symm)
        exact .inr (.inr (.inl ⟨by tauto, hlc, hb, herr⟩))
      · exact .inr (.inr (.inr (.inl ⟨hrow, hlc, hb, herr⟩)))
    | transfer =>
      obtain ⟨hlc, herr⟩ := ho
      exact .inr (.inr (.inr (.inr (.inl ⟨by simpa [acceptedIn] using hacc, hlc, .inr hb, .inr herr⟩))))
    | close =>
      obtain ⟨hlc, herr⟩ := ho
      exact .inr (.inr (.inr (.inr (.inr ⟨hlc, hb, herr⟩))))

/-- `t` has the pin assignment, the mode and the speed of `s`. -/
def State.SameConstruction (s t : State) : Prop := t.pins = s.pins ∧ t.mode = s.mode ∧ t.speed = s.speed

/-- No command stores in `PINS`, `MODE` or `SPEED`. -/
theorem State.effect_sameConstruction (s : State) (i : Instr) (fault : Bool) :
    s.SameConstruction (s.effect i fault) := by
  rcases s.effect_cases i fault with ⟨-, he | he⟩ | ⟨-, he | he | he⟩ | ⟨-, he | he | he⟩ | ⟨-, he⟩ <;>
    (rw [he]; exact ⟨rfl, rfl, rfl⟩)

/-- Outside `CLOSED` no data write stores in `PINS`, `MODE` or `SPEED` (20_memory.md R58). -/
theorem State.dataWrite_sameConstruction {s : State} (hlc : s.lc ≠ .closed) (a : Addr) (d : Word) (t : State) :
    t.SameConstruction (s.dataWrite a d t) := by
  unfold State.dataWrite
  cases ht : s.writeTarget a with
  | none => exact ⟨rfl, rfl, rfl⟩
  | some r =>
    have hw := State.writeTarget_eq_some ht
    cases r with
    | pins | mode | speed => simp [State.writable, hlc] at hw
    | _ => exact ⟨rfl, rfl, rfl⟩

/-- Settles O15: neither the engine nor a command stores in the three registers, and a data write only in `CLOSED`. -/
theorem constructionRegistersFixed : Obligations.ConstructionRegistersFixed := by
  intro s t hr hlc hstep
  have of_engine : ∀ op : State → State, s.engine.SameConstruction (op s.engine) → s.SameConstruction (s.tick op) :=
    fun op ⟨hp, hm, hv⟩ => ⟨hp.trans s.engine_pins, hm.trans s.engine_mode, hv.trans s.engine_speed⟩
  rcases step_ticks hstep with ⟨hr', -⟩ | ⟨i, -, -, rfl⟩ | rfl | rfl | ⟨a, d, rfl⟩
  · cases hr.symm.trans hr'
  · exact of_engine _ (s.engine.accept.effect_sameConstruction i s.driverFault)
  · exact of_engine id ⟨rfl, rfl, rfl⟩
  · exact of_engine State.refuse ⟨rfl, rfl, rfl⟩
  · exact of_engine _ (State.dataWrite_sameConstruction hlc a d _)

end Sys2Proof.Machine

/-! ### CONFIGURE (41_configure.md) -/

namespace Sys2Proof.Machine

open Sys2Proof

/-! #### The clock divider (R123, R133, R134) -/

theorem dividerOf_pos_iff (f sp : Word) : 1 ≤ dividerOf f sp ↔ 1 ≤ sp.toNat ∧ 2 * sp.toNat ≤ f.toNat := by
  have h : 0 < dividerOf f sp ↔ 0 < 2 * sp.toNat ∧ 2 * sp.toNat ≤ f.toNat := Nat.div_pos_iff
  omega

/-- One half period later SCLK is at the other level (R134). -/
theorem sclkLevel_add_half (cpol : Bool) {D : Nat} (hD : 1 ≤ D) (t : Nat) :
    sclkLevel cpol D (t + D) = !sclkLevel cpol D t := by
  unfold sclkLevel
  rw [Nat.add_div_right t hD, ← Bool.xor_not]
  rcases Nat.mod_two_eq_zero_or_one (t / D) with h | h <;> simp [Nat.add_mod, h]

/-- Settles O22: the divider is a division of natural numbers, and two half periods are a period. -/
theorem clockDivider : Obligations.ClockDivider := by
  refine ⟨fun f s1 s2 h1 h12 => ?_, fun f sp => ?_, fun f sp _ _ => ?_, fun cpol D t hD => ?_⟩
  · exact Nat.div_le_div_left (Nat.mul_le_mul_left 2 h12) (by omega)
  · rw [dividerOf_pos_iff, Nat.le_div_iff_mul_le Nat.two_pos, Nat.mul_comm]
  · have hprod : sp.toNat * (2 * dividerOf f sp) = 2 * sp.toNat * dividerOf f sp := by ring
    rw [hprod]
    exact ⟨Nat.mul_div_le _ _, Nat.mul_div_eq_iff_dvd⟩
  · refine ⟨?_, sclkLevel_add_half cpol hD t⟩
    rw [two_mul, ← Nat.add_assoc, sclkLevel_add_half cpol hD, sclkLevel_add_half cpol hD, Bool.not_not]

/-! #### Everything CONFIGURE can do (R120, R125) -/

/-- The two arithmetic causes of ConfigurationError are one: the divider is 0 (R125). -/
theorem State.divider_eq_zero_iff (s : State) :
    s.divider = 0 ↔ s.speed = 0 ∨ s.params.fSys.toNat < 2 * s.speed.toNat := by
  have hpos := dividerOf_pos_iff s.params.fSys s.speed
  have hspeed : s.speed = 0 ↔ s.speed.toNat = 0 := BitVec.toNat_inj.symm
  rw [State.divider, hspeed]
  omega

/-- Everything an accepted CONFIGURE can do: the arithmetic failure, which comes before the driver's, the driver's
failure, and the programming (R125). -/
theorem State.configure_cases (s : State) (fault : Bool) :
    (s.divider = 0 ∧ s.configure fault = s.prepared.configureFails) ∨
    (s.divider ≠ 0 ∧ fault = true ∧ s.configure fault = s.prepared.configureFails.indeterminate) ∨
    (s.divider ≠ 0 ∧ fault = false ∧ s.configure fault = s.prepared.program) := by
  unfold State.configure
  dsimp only
  split_ifs with hspeed hD hf
  · exact .inl ⟨s.divider_eq_zero_iff.2 (.inl hspeed), rfl⟩
  · exact .inl ⟨hD, rfl⟩
  · exact .inr (.inl ⟨hD, hf, rfl⟩)
  · exact .inr (.inr ⟨hD, by simpa using hf, rfl⟩)

/-- The tick of an accepted CONFIGURE before its checks: the units have stepped, the write is accepted and the digital
I/O is reset (R120, R121). -/
def State.checking (s : State) : State := s.stepUnits.accept.prepared

theorem State.accepts_configure {s : State} (hs : s.seq = .idle)
    (hlc : s.lc = .opened ∨ s.lc = .ready ∨ s.lc = .desync) : s.accepts .configure = true :=
  (s.accepts_iff _).2 ⟨hs, (acceptedIn_iff _ _).2 (.inr (.inl ⟨rfl, hlc⟩))⟩

theorem State.engine_eq_stepUnits {s : State} (hs : s.seq = .idle) : s.engine = s.stepUnits := s.engine_idle hs

theorem State.exec_configure {s : State} (hs : s.seq = .idle) (hlc : s.lc = .opened ∨ s.lc = .ready ∨ s.lc = .desync) :
    exec .configure s = .next (s.stepUnits.accept.configure s.driverFault).unspecify := by
  rw [exec_accepted (State.accepts_configure hs hlc), State.tick, State.engine_eq_stepUnits hs]
  rfl

/-- The tick of an accepted CONFIGURE, by what its checks find. -/
theorem State.exec_configure_cases {s : State} (hs : s.seq = .idle)
    (hlc : s.lc = .opened ∨ s.lc = .ready ∨ s.lc = .desync) :
    (s.divider = 0 ∧ exec .configure s = .next s.checking.configureFails.unspecify) ∨
    (s.divider ≠ 0 ∧ s.driverFault = true ∧
      exec .configure s = .next s.checking.configureFails.indeterminate.unspecify) ∨
    (s.divider ≠ 0 ∧ s.driverFault = false ∧ exec .configure s = .next s.checking.program.unspecify) := by
  rw [State.exec_configure hs hlc]
  rcases s.stepUnits.accept.configure_cases s.driverFault with ⟨hD, he⟩ | ⟨hD, hf, he⟩ | ⟨hD, hf, he⟩ <;> rw [he]
  · exact .inl ⟨hD, rfl⟩
  · exact .inr (.inl ⟨hD, hf, rfl⟩)
  · exact .inr (.inr ⟨hD, hf, rfl⟩)

/-- The tick of a CONFIGURE that passes its checks. -/
theorem State.exec_configure_passes {s : State} (hs : s.seq = .idle)
    (hlc : s.lc = .opened ∨ s.lc = .ready ∨ s.lc = .desync) (hD : 1 ≤ s.divider) (hf : s.driverFault = false) :
    exec .configure s = .next s.checking.program.unspecify := by
  rcases State.exec_configure_cases hs hlc with ⟨hD', -⟩ | ⟨-, hf', -⟩ | ⟨-, -, he⟩
  · omega
  · cases hf.symm.trans hf'
  · exact he

/-! What of the state of the tick stands before the checks, item by item. -/

@[simp] theorem State.checking_params (s : State) : s.checking.params = s.params := rfl
@[simp] theorem State.checking_pins (s : State) : s.checking.pins = s.pins := rfl
@[simp] theorem State.checking_mode (s : State) : s.checking.mode = s.mode := rfl
@[simp] theorem State.checking_speed (s : State) : s.checking.speed = s.speed := rfl
@[simp] theorem State.checking_seq (s : State) : s.checking.seq = s.seq := rfl
@[simp] theorem State.checking_tSysclk (s : State) : s.checking.tSysclk = s.params.fSys := rfl
@[simp] theorem State.checking_divider (s : State) : s.checking.divider = s.divider := rfl

@[simp] theorem State.checking_dig (s : State) : s.checking.dig = Digitizer.resetKeeping s.pinLevels :=
  congrArg Digitizer.resetKeeping (s.dig.tick_prev s.pinLevels)

theorem State.checking_program_configured {s : State} (hD : 1 ≤ s.divider) : s.checking.program.Configured :=
  s.checking.program_configured (by simp) (by rw [s.checking_divider]; omega)

/-! #### A CONFIGURE that passes its checks (R122 to R130) -/

theorem State.checking_program_divider (s : State) : s.checking.program.divider = s.divider := by
  simp [State.divider]

/-- Settles O16: the values of a configured engine (`State.program_configured`). -/
theorem configureSetsTiming : Obligations.ConfigureSetsTiming := by
  intro s hs hlc _ hD hf
  have hc := State.checking_program_configured (s := s) hD
  have hratio : s.checking.program.halfBit = s.params.fSys.toNat / (2 * s.speed.toNat) :=
    hc.ratio.trans s.checking_program_divider
  refine ⟨_, State.exec_configure_passes hs hlc hD hf, rfl, rfl, rfl, ?_, ?_, ?_, ?_⟩
  · simp [hs]
  · simp
  · exact hratio
  · rw [← hratio]
    exact hc.bit

theorem ProtocolMode.phase_mul (m : ProtocolMode) (D : Nat) : m.phase * D = if m.cpha then D else 0 := by
  cases h : m.cpha <;> simp [ProtocolMode.phase, h]

/-- Settles O18: the channels as CONFIGURE programs them, in a generator that is otherwise in its reset state. -/
theorem configureProgramsChannels : Obligations.ConfigureProgramsChannels := by
  intro s hs hlc _ hD hf
  refine ⟨_, State.exec_configure_passes hs hlc hD hf, rfl, rfl, rfl, rfl, rfl, ?_⟩
  rw [← ProtocolMode.phase_mul]
  rfl

/-- Settles O19: the digitizer as CONFIGURE programs it, with the levels of the command's tick in `DIG.PREV`. -/
theorem configureSelectsTrigger : Obligations.ConfigureSelectsTrigger := by
  intro s hs hlc _ hD hf
  exact ⟨_, State.exec_configure_passes hs hlc hD hf, rfl, rfl, rfl, rfl, rfl, rfl, rfl, rfl, rfl, rfl,
    s.dig.tick_prev s.pinLevels, rfl, rfl, fun heq => ⟨if_pos heq, if_pos heq⟩, fun hne => ⟨if_neg hne, if_neg hne⟩⟩

/-! #### A CONFIGURE that fails, and what every CONFIGURE keeps (R120, R125) -/

theorem State.accepts_failed {s : State} (hlc : s.lc = .failed) {i : Instr} (h : s.accepts i = true) : i = .close := by
  obtain ⟨-, hacc⟩ := (s.accepts_iff i).1 h
  rw [acceptedIn_iff, hlc] at hacc
  simpa using hacc

/-- Settles O20, by what the checks find (`State.exec_configure_cases`). -/
theorem configureFails : Obligations.ConfigureFails := by
  refine fun s => ⟨fun hs hlc hcause => ?_, fun hlc i => State.accepts_failed hlc⟩
  rw [← or_assoc] at hcause
  rw [← s.divider_eq_zero_iff] at hcause ⊢
  rcases State.exec_configure_cases hs hlc with ⟨hD, he⟩ | ⟨hD, -, he⟩ | ⟨hD, hf, -⟩
  · have released : s.checking.configureFails.unspecify.Released := ⟨rfl, rfl⟩
    exact ⟨_, he, rfl, rfl, rfl, rfl, rfl, rfl, fun _ => ⟨rfl, s.checking_dig, rfl, released.dioOe rfl⟩,
      fun hne => absurd hD hne⟩
  · exact ⟨_, he, rfl, rfl, rfl, rfl, rfl, rfl, fun heq => absurd heq hD, fun _ => rfl⟩
  · rcases hcause with hD' | hf'
    · exact absurd hD' hD
    · cases hf.symm.trans hf'

/-- `t` differs from `s` in nothing but what CONFIGURE writes: `LC`, `SEQ`, `ERR`, the timing registers, the units with
their buffers and the mark of the unspecified condition (R120). -/
abbrev State.ConfigureOnly (s t : State) : Prop :=
  t = { s with
    lc := t.lc, seq := t.seq, err := t.err, tSysclk := t.tSysclk, tDiv := t.tDiv, tBitdiv := t.tBitdiv,
    gen := t.gen, pat := t.pat, dig := t.dig, smp := t.smp, ioFree := t.ioFree }

theorem State.configureOnly_configure (s : State) (fault : Bool) : s.ConfigureOnly (s.configure fault) := by
  rcases s.configure_cases fault with ⟨-, he⟩ | ⟨-, -, he⟩ | ⟨-, -, he⟩ <;> rw [he] <;> rfl

/-- CONFIGURE starts no transfer. -/
theorem State.configure_seq {s : State} (hs : s.seq = .idle) (fault : Bool) : (s.configure fault).seq = .idle := by
  rcases s.configure_cases fault with ⟨-, he⟩ | ⟨-, -, he⟩ | ⟨-, -, he⟩ <;> rw [he]
  · rfl
  · rfl
  · exact hs

/-- Settles O17: CONFIGURE writes nothing of what is named (`State.configureOnly_configure`), and neither do the units'
steps before it and the drawing of the unspecified items after it. -/
theorem configureFrame : Obligations.ConfigureFrame := by
  intro s hs hlc
  refine ⟨_, State.exec_configure hs hlc, ?_⟩
  have hseq := State.configure_seq (s := s.stepUnits.accept) hs s.driverFault
  have honly := s.stepUnits.accept.configureOnly_configure s.driverFault
  generalize s.stepUnits.accept.configure s.driverFault = t at hseq honly
  rw [State.unspecify_seq, hseq, hs, honly]
  refine ⟨rfl, rfl, rfl, rfl, rfl, rfl, rfl, rfl, rfl, rfl, rfl, fun hrx => ?_⟩
  have hdraw : s.stepUnits.rxFree = false := hrx
  simp only [State.unspecify_rxLen, State.unspecify_rxbuf, State.accept_rxFree, hdraw]
  exact ⟨rfl, rfl⟩

/-! #### The pins of a configured engine (R131, R132) -/

/-- A channel of a stopped generator presents its idle level (43_waveform_generator.md R191). -/
theorem State.chOut_stopped {s : State} (hstop : s.gen.running = false) (c : Channel) : s.chOut c = c.idle := by
  rw [State.chOut, hstop]
  rfl

/-- The idle levels a configured engine has programmed (R126 to R128). -/
theorem State.Configured.idle {s : State} (h : s.Configured) :
    s.gen.ss.idle = true ∧ s.gen.sclk.idle = s.mode.cpol ∧ s.gen.mosi.idle = false := by
  obtain ⟨-, -, hss, -⟩ := h.ss
  obtain ⟨-, -, hsclk, -⟩ := h.sclk
  obtain ⟨-, -, hmosi, -⟩ := h.mosi
  exact ⟨hss, hsclk, hmosi⟩

theorem State.Inv.channelsOn {s : State} (h : s.Inv) (hlc : s.lc = .ready) : ChannelsOn s := by
  obtain ⟨hio, hc, -⟩ := h.stage.at_ready hlc
  exact hc.channelsOn hio (h.pins (by simp [hlc]))

/-- A configured engine with a stopped generator shows the idle levels on its three output pins (R131). -/
theorem State.Inv.idle_levels {s : State} (h : s.Inv) (hlc : s.lc = .ready) (hstop : s.gen.running = false) :
    s.pinLevels.getLsbD s.pins.ss.toNat = true ∧ s.pinLevels.getLsbD s.pins.sclk.toNat = s.mode.cpol ∧
      s.pinLevels.getLsbD s.pins.mosi.toNat = false := by
  obtain ⟨hss, hsclk, hmosi, -⟩ := (h.channelsOn hlc).levels
  obtain ⟨iss, isclk, imosi⟩ := (h.ready hlc).idle
  rw [hss, hsclk, hmosi]
  simp only [State.chOut_stopped hstop]
  exact ⟨iss, isclk, imosi⟩

/-- Settles O23: the idle levels are those of the invariant in `READY`, which the tick of a CONFIGURE keeps. -/
theorem idleLevels : Obligations.IdleLevels := by
  intro s h
  refine ⟨fun hlc hstop => ?_, fun t hs hlc he ht => ?_⟩
  · obtain ⟨hss, hsclk, hmosi⟩ := h.idle_levels hlc hstop
    refine ⟨hss, hsclk, hmosi, fun p => ?_⟩
    rw [(h.channelsOn hlc).dioOe, Bool.decide_or, Bool.decide_or, Bool.or_assoc]
  · rcases State.exec_configure_cases hs hlc with ⟨-, he'⟩ | ⟨-, -, he'⟩ | ⟨-, -, he'⟩ <;> cases he.symm.trans he'
    · cases ht
    · cases ht
    · simpa using (h.exec_inv he).idle_levels ht rfl

/-- Two configured engines with stopped generators, the same pins and the same mode drive the same levels on the same
pins. -/
theorem State.Inv.same_pins {s t : State} (h : s.Inv) (h' : t.Inv) (hlc : s.lc = .ready) (hlc' : t.lc = .ready)
    (hstop : s.gen.running = false) (hstop' : t.gen.running = false) (hpins : t.pins = s.pins)
    (hmode : t.mode = s.mode) : t.dioOe = s.dioOe ∧ t.dioOut = s.dioOut := by
  constructor <;> apply BitVec.eq_of_getLsbD_eq <;> intro p _
  · rw [(h.channelsOn hlc).dioOe, (h'.channelsOn hlc').dioOe, hpins]
  · obtain ⟨iss, isclk, imosi⟩ := (h.ready hlc).idle
    obtain ⟨iss', isclk', imosi'⟩ := (h'.ready hlc').idle
    simp only [(h.channelsOn hlc).dioOut, (h'.channelsOn hlc').dioOut, State.chOut_stopped hstop,
      State.chOut_stopped hstop', iss, isclk, imosi, iss', isclk', imosi', hpins, hmode]

theorem Channel.programmedAs_symm {a b : Channel} (h : a.programmedAs b) : b.programmedAs a := by
  obtain ⟨h1, h2, h3, h4, h5, h6, h7, h8, h9⟩ := h
  exact ⟨h1.symm, h2.symm, h3.symm, h4.symm, h5.symm, h6.symm, h7.symm, h8.symm, h9.symm⟩

theorem Digitizer.programmedAs_symm {a b : Digitizer} (h : a.programmedAs b) : b.programmedAs a := by
  obtain ⟨h1, h2, h3, h4, h5, h6, h7, h8⟩ := h
  exact ⟨h1.symm, h2.symm, h3.symm, h4.symm, h5.symm, h6.symm, h7.symm, h8.symm⟩

/-- `t` has the timing and the configuration registers of `s`. -/
def State.SameConfiguration (s t : State) : Prop :=
  (t.tSysclk = s.tSysclk ∧ t.tDiv = s.tDiv ∧ t.tBitdiv = s.tBitdiv) ∧
    t.gen.ss.programmedAs s.gen.ss ∧ t.gen.sclk.programmedAs s.gen.sclk ∧ t.gen.mosi.programmedAs s.gen.mosi ∧
    t.dig.programmedAs s.dig

/-- The clock, the speed, the pins and the mode determine the configuration (R122 to R130). -/
theorem State.Configured.sameConfiguration {s t : State} (h : s.Configured) (h' : t.Configured)
    (hparams : t.params = s.params) (hspeed : t.speed = s.speed) (hpins : t.pins = s.pins) (hmode : t.mode = s.mode) :
    s.SameConfiguration t := by
  have hhalf : t.halfBit = s.halfBit := by
    rw [h'.ratio, h.ratio, State.divider, hparams, hspeed, State.divider]
  have hss := h'.ss
  have hsclk := h'.sclk
  have hmosi := h'.mosi
  have hdig := h'.dig
  rw [hpins] at hss
  rw [hpins, hmode, hhalf] at hsclk hmosi hdig
  refine ⟨⟨?_, BitVec.eq_of_toNat_eq hhalf, BitVec.eq_of_toNat_eq ?_⟩,
    Channel.programmedAs_trans hss (Channel.programmedAs_symm h.ss),
    Channel.programmedAs_trans hsclk (Channel.programmedAs_symm h.sclk),
    Channel.programmedAs_trans hmosi (Channel.programmedAs_symm h.mosi),
    Digitizer.programmedAs_trans hdig (Digitizer.programmedAs_symm h.dig)⟩
  · rw [h'.sysclk, h.sysclk, hparams]
  · rw [h'.bit, h.bit, hhalf]

/-- Settles O21: the states before and after are configured for the same clock, speed, pins and mode, and both
generators are stopped. -/
theorem configureIdempotent : Obligations.ConfigureIdempotent := by
  intro s h hlc hs hf
  have hc := h.ready hlc
  have hD : 1 ≤ s.divider := hc.ratio ▸ hc.positive
  have he := State.exec_configure_passes hs (.inr (.inl hlc)) hD hf
  have h' := h.exec_inv he
  obtain ⟨⟨hsys, hdiv, hbit⟩, hss, hsclk, hmosi, hdig⟩ := hc.sameConfiguration (h'.ready rfl) (by simp) (by simp)
    (by simp) (by simp)
  obtain ⟨hoe, hout⟩ := h.same_pins h' hlc rfl (h.rest hlc hs).1 rfl (by simp) (by simp)
  exact ⟨_, he, rfl, rfl, hsys, hdiv, hbit, hss, hsclk, hmosi, hdig, hoe, hout⟩

end Sys2Proof.Machine

/-! ### The command tick of a TRANSFER (42_transfer_sequencer.md R150 to R162) -/

namespace Sys2Proof.Machine

open Sys2Proof

/-- A request that fits, by its operand fields (R151). -/
theorem State.overCapacity_eq_false_iff_operands (s : State) : s.overCapacity = false ↔
    1 ≤ s.xfer.byteCount.toNat ∧ s.xfer.byteCount.toNat ≤ 63 ∧
      2 * (8 * s.xfer.byteCount.toNat + s.xfer.errClk.toNat) + 2 < 1024 := by
  rw [s.overCapacity_eq_false_iff, and_assoc]
  rfl

/-- Everything an accepted TRANSFER can do: the capacity check comes before the driver's (R151, R157). -/
theorem State.transfer_cases (s : State) (fault : Bool) :
    (s.overCapacity = true ∧ s.transfer fault = s.raise .capacity) ∨
    (s.overCapacity = false ∧ fault = true ∧ s.transfer fault = s.raise .driver) ∨
    (s.overCapacity = false ∧ fault = false ∧ s.transfer fault = s.load) := by
  unfold State.transfer
  split_ifs with hc hf
  · exact .inl ⟨hc, rfl⟩
  · exact .inr (.inl ⟨by simpa using hc, hf, rfl⟩)
  · exact .inr (.inr ⟨by simpa using hc, by simpa using hf, rfl⟩)

/-- The tick of an accepted TRANSFER, by what its checks find. -/
theorem State.exec_transfer_cases {s : State} (hlc : s.lc = .ready) (hs : s.seq = .idle) :
    (s.overCapacity = true ∧ exec .transfer s = .next (s.stepUnits.accept.raise .capacity).unspecify) ∨
    (s.overCapacity = false ∧ s.driverFault = true ∧
      exec .transfer s = .next (s.stepUnits.accept.raise .driver).unspecify) ∨
    (s.overCapacity = false ∧ s.driverFault = false ∧ exec .transfer s = .next s.stepUnits.accept.load.unspecify) := by
  have hacc : s.accepts .transfer = true :=
    (s.accepts_iff _).2 ⟨hs, (acceptedIn_iff _ _).2 (.inr (.inr (.inl ⟨rfl, hlc⟩)))⟩
  rw [exec_accepted hacc, State.tick, State.engine_eq_stepUnits hs, State.effect]
  rcases s.stepUnits.accept.transfer_cases s.driverFault with ⟨hc, he⟩ | ⟨hc, hf, he⟩ | ⟨hc, hf, he⟩ <;> rw [he]
  · exact .inl ⟨hc, rfl⟩
  · exact .inr (.inl ⟨hc, hf, rfl⟩)
  · exact .inr (.inr ⟨hc, hf, rfl⟩)

/-- The tick of a TRANSFER that passes both checks. -/
theorem State.exec_transfer_loads {s : State} (hlc : s.lc = .ready) (hs : s.seq = .idle)
    (hc : s.overCapacity = false) (hf : s.driverFault = false) :
    exec .transfer s = .next s.stepUnits.accept.load.unspecify := by
  rcases State.exec_transfer_cases hlc hs with ⟨hc', -⟩ | ⟨-, hf', -⟩ | ⟨-, -, he⟩
  · cases hc.symm.trans hc'
  · cases hf.symm.trans hf'
  · exact he

/-- With no transfer in flight CapacityError changes `ERR` alone (60_exceptions.md R272). -/
theorem State.raise_capacity {s : State} (hs : s.seq = .idle) : s.raise .capacity = { s with err := .capacity } := by
  rw [State.raise, ← hs]
  rfl

/-- Settles O24: the capacity check comes first (`State.exec_transfer_cases`). -/
theorem transferCapacityError : Obligations.TransferCapacityError := by
  intro s hlc hs hreq
  rcases State.exec_transfer_cases hlc hs with ⟨-, he⟩ | ⟨hc, -⟩ | ⟨hc, -⟩
  · rw [he, State.raise_capacity (s := s.stepUnits.accept) hs, State.tick, State.engine_eq_stepUnits hs]
    rfl
  all_goals
    have := s.overCapacity_eq_false_iff_operands.1 hc
    omega

/-- Settles O25: the driver check comes second (`State.exec_transfer_cases`). -/
theorem transferDriverFailure : Obligations.TransferDriverFailure := by
  intro s hlc hs h1 h63 hfit hf
  have hc := s.overCapacity_eq_false_iff_operands.2 ⟨h1, h63, hfit⟩
  rcases State.exec_transfer_cases hlc hs with ⟨hc', -⟩ | ⟨-, -, he⟩ | ⟨-, hf', -⟩
  · cases hc.symm.trans hc'
  · exact ⟨_, he, rfl, rfl, rfl, rfl, rfl, rfl, rfl, rfl, rfl, rfl, rfl, rfl, rfl, rfl, rfl, rfl⟩
  · cases hf.symm.trans hf'

/-- With no transfer in flight and outside the unspecified condition the units' step is the tick at rest. -/
theorem State.Inv.stepUnits_at_rest {s : State} (h : s.Inv) (hs : s.seq = .idle) (hio : s.ioFree = false) :
    s.stepUnits = s.restTick :=
  (State.engine_eq_stepUnits hs).symm.trans (h.engine_at_rest hs hio)

/-- Settles O26: the loading of the request (`State.load`) on an engine at rest. -/
theorem transferArms : Obligations.TransferArms := by
  intro s h hlc hs h1 h63 hfit hf
  have hio : s.ioFree = false := h.defined (by simp [hlc]) (by simp [hlc])
  have he := State.exec_transfer_loads hlc hs (s.overCapacity_eq_false_iff_operands.2 ⟨h1, h63, hfit⟩) hf
  rw [h.stepUnits_at_rest hs hio,
    State.unspecify_defined (s := s.restTick.accept.load) hio] at he
  have hN : s.load.latch.nBits = 8 * s.xfer.byteCount.toNat + s.xfer.errClk.toNat := rfl
  have hS : s.load.latch.nSamp = 2 * s.load.latch.nBits + 2 := rfl
  refine ⟨_, he, rfl, rfl, hlc, rfl, rfl, rfl, rfl, rfl, hN, hS, rfl, rfl, rfl, ?_, ?_, ?_, ?_, rfl, rfl,
    (h.rest hlc hs).1, rfl, rfl, rfl, rfl, ⟨rfl, rfl, rfl, rfl, rfl, rfl, rfl, rfl, rfl⟩, rfl⟩
  · change 8 ≤ s.load.latch.nBits
    omega
  · change s.load.latch.nBits ≤ 510
    omega
  · change 18 ≤ s.load.latch.nSamp
    omega
  · change s.load.latch.nSamp ≤ 1022
    omega

/-- The pattern holds the bit of the request at every position of the request (R161). -/
theorem State.patBit_of_pattern {s t : State} (hpat : t.pat = s.pattern) {k : Nat} (hk : k < s.reqBits) :
    t.patBit k = s.patternBit k := by
  simp [State.patBit, hpat, State.pattern, hk]

/-- A payload bit of the request is a bit of its byte, in the programmed order (R160). -/
theorem State.patternBit_payload (s : State) {j i : Nat} (hj : j < s.reqBytes) (hi : i < 8) :
    s.patternBit (8 * j + i) = (s.txByte j).getLsbD (if s.xfer.lsbTx then i else 7 - i) := by
  rw [State.patternBit, if_pos (by omega), State.programmedWord, show (8 * j + i) / 8 = j by omega,
    show (8 * j + i) % 8 = i by omega]
  cases s.xfer.lsbTx
  · exact rev8_getLsbD _ hi
  · rfl

/-- Past the payload the request has zeros (R161). -/
theorem State.patternBit_padding (s : State) {k : Nat} (hk : 8 * s.reqBytes ≤ k) : s.patternBit k = false :=
  if_neg (by omega)

/-- Settles O27: the pattern of the state of the tick is loaded (`State.patBit_of_pattern`), bit by bit. -/
theorem transferLoadsPattern : Obligations.TransferLoadsPattern := by
  intro s hlc hs hio hc hf
  have he := State.exec_transfer_loads hlc hs hc hf
  rw [State.unspecify_defined (s := s.stepUnits.accept.load) hio] at he
  have hbits : s.reqBits = 8 * s.reqBytes + s.reqErrClk := rfl
  refine ⟨_, he, fun j i hj hi => ?_, fun k hk hk' => ?_, ?_, rfl⟩
  · rw [State.patBit_of_pattern (s := s) rfl, s.patternBit_payload hj hi]
    change j < s.reqBytes at hj
    omega
  · rw [State.patBit_of_pattern (s := s) rfl hk', s.patternBit_padding hk]
  · rfl

end Sys2Proof.Machine

/-! ### The sequencer after the command tick (42_transfer_sequencer.md R163 to R172) -/

namespace Sys2Proof.Machine

open Sys2Proof

/-- Without a write the tick is the engine's own (20_memory.md R51). -/
theorem step_of_no_write {s : State} (hr : s.rst = false) (hb : ∀ a d, s.busOp ≠ .wr a d) :
    step s = .next (s.tick id) := by
  have hq : s.busOp.request = .quiet := by
    cases hop : s.busOp with
    | nop | rd => rfl
    | wr a d => exact absurd hop (hb a d)
  rw [step, hr, hq]
  rfl

/-- While a transfer is in flight the tick is the engine's own, whatever the host does, `STATUS.REJ` apart (R59,
30_encoding.md R85). -/
theorem State.Inv.step_in_flight {s : State} (h : s.Inv) (hr : s.rst = false) (hs : s.seq ≠ .idle) :
    ∃ rej, step s = .next { s.engine.unspecify with rej := rej } := by
  by_cases hb : ∃ a d, s.busOp = .wr a d
  · obtain ⟨a, d, hb⟩ := hb
    exact ⟨true, h.step_write_in_flight hr hs hb⟩
  · exact ⟨_, step_of_no_write hr fun a d hop => hb ⟨a, d, hop⟩⟩

theorem State.Inv.defined_in_flight {s : State} (h : s.Inv) (hs : s.seq ≠ .idle) : s.ioFree = false :=
  (h.in_flight hs).2.2.defined

/-! #### The branches of the sequencer, one lemma each -/

/-- DriverError in flight (R169). -/
theorem State.engine_driver_error {s : State} (hs : s.seq = .armed ∨ s.seq = .running) (hf : s.driverFault = true) :
    ∃ n, s.engine = State.raise .driver { s.stepUnits with tcnt := n } := by
  rw [State.engine_eq_sequence_stepUnits, State.sequence]
  rcases hs with hs | hs <;> rw [hs, hf]
  · exact ⟨s.tcnt, rfl⟩
  · exact ⟨s.tcnt + 1, rfl⟩

/-- START (R163). -/
theorem State.engine_start {s : State} (hs : s.seq = .armed) (hf : s.driverFault = false) :
    s.engine = s.stepUnits.start := by
  rw [State.engine_eq_sequence_stepUnits, State.sequence, hs, hf]
  rfl

/-- A tick that is no poll, or polls before the deadline without reading `DONE` (R164, R166). -/
theorem State.engine_count {s : State} (hs : s.seq = .running) (hf : s.driverFault = false)
    (hp : s.isPoll = false ∨ (s.readsDone = false ∧ s.tcnt < s.latch.deadline)) :
    s.engine = { s.stepUnits with tcnt := s.tcnt + 1 } := by
  rw [State.engine_eq_sequence_stepUnits, State.sequence, hs, hf]
  rcases hp with hp | ⟨hd, hl⟩
  · simp [hp]
  · simp [hd, hl]

/-- A poll that reads `DONE` (R170). -/
theorem State.engine_complete {s : State} (hs : s.seq = .running) (hf : s.driverFault = false)
    (hp : s.isPoll = true) (hd : s.readsDone = true) :
    s.engine = State.complete s.decodedBytes { s.stepUnits with tcnt := s.tcnt + 1 } := by
  rw [State.engine_eq_sequence_stepUnits, State.sequence, hs, hf, hp, hd]
  rfl

/-- A poll at or after the deadline that does not read `DONE` (R168). -/
theorem State.engine_timeout {s : State} (hs : s.seq = .running) (hf : s.driverFault = false)
    (hp : s.isPoll = true) (hd : s.readsDone = false) (hl : s.latch.deadline ≤ s.tcnt) :
    s.engine = State.raise .timeout { s.stepUnits with tcnt := s.tcnt + 1 } := by
  rw [State.engine_eq_sequence_stepUnits, State.sequence, hs, hf, hp, hd]
  exact if_pos hl

/-- In the tick after completion the units are at rest, and `SEQ <- IDLE` (R170). -/
theorem State.Inv.engine_after_done {s : State} (h : s.Inv) (hs : s.seq = .done) :
    s.engine = { s.restTick with seq := .idle } := by
  obtain ⟨hstop, hdone, -⟩ := h.done hs
  rw [State.engine_eq_sequence_stepUnits, State.sequence, hs, State.stepUnits, s.gen.tick_stopped hstop,
    s.dig.tick_at_rest_of_ready_or_done _ (.inr hdone), s.dig.store_at_rest _ _ (by simp [hdone]) (by simp [hdone])]
  rfl

theorem State.readsDone_eq_false_iff (s : State) : s.readsDone = false ↔ s.dig.st ≠ .done ∨ s.withheld = true := by
  rw [← Bool.not_eq_true, s.readsDone_iff, not_and_or, Bool.not_eq_false]

theorem State.isPoll_eq_false_iff (s : State) :
    s.isPoll = false ↔ ¬ (0 < s.tcnt ∧ s.tcnt % s.params.pollTicks.toNat = 0) := by
  rw [← s.isPoll_iff, Bool.not_eq_true]

/-! #### The ticks -/

/-- In the tick of START the units are still at rest (R163). -/
theorem State.Inv.stepUnits_armed {s : State} (h : s.Inv) (hs : s.seq = .armed) : s.stepUnits = s.restTick := by
  obtain ⟨-, hstop, hd, he⟩ := h.armed hs
  rw [State.stepUnits, s.gen.tick_stopped hstop, s.dig.tick_at_rest _ (by simp [hd]) fun _ => he,
    s.dig.store_at_rest _ _ (by simp [hd]) fun _ => he]
  rfl

theorem Channel.start_pulse {c : Channel} (h : c.dtype = .pulse) : c.start =
    { c with dcnt := c.divInit, lvl := c.initLvl, pcnt := if c.initLvl then c.highCnt else c.lowCnt } := by
  rw [Channel.start, h]
  rfl

theorem Channel.start_custom {c : Channel} (h : c.dtype = .custom) :
    c.start = { c with dcnt := c.divInit, idx := 0 } := by
  rw [Channel.start, h]

/-- The generator of a configured engine at START: two PULSE channels and a CUSTOM one (43_waveform_generator.md
R192). -/
theorem State.Configured.gen_start {s : State} (h : s.Configured) : s.gen.start =
    { ss := { s.gen.ss with dcnt := s.gen.ss.divInit, lvl := s.gen.ss.initLvl,
                            pcnt := if s.gen.ss.initLvl then s.gen.ss.highCnt else s.gen.ss.lowCnt },
      sclk := { s.gen.sclk with dcnt := s.gen.sclk.divInit, lvl := s.gen.sclk.initLvl,
                                pcnt := if s.gen.sclk.initLvl then s.gen.sclk.highCnt else s.gen.sclk.lowCnt },
      mosi := { s.gen.mosi with dcnt := s.gen.mosi.divInit, idx := 0 },
      runLen := s.gen.runLen, rt := 0, running := true } := by
  obtain ⟨-, -, -, hss, -⟩ := h.ss
  obtain ⟨-, -, -, hsclk, -⟩ := h.sclk
  obtain ⟨-, -, -, hmosi, -⟩ := h.mosi
  rw [Generator.start, Channel.start_pulse hss, Channel.start_pulse hsclk, Channel.start_custom hmosi]

/-- Settles O28: START (`State.engine_start`) on units at rest. -/
theorem startTick : Obligations.StartTick := by
  intro s h hr hs hf
  have hq : s.seq ≠ .idle := by simp [hs]
  obtain ⟨rej, hstep⟩ := h.step_in_flight hr hq
  obtain ⟨hlc, hc, -⟩ := h.in_flight hq
  obtain ⟨hl, -⟩ := h.armed hs
  rw [State.engine_start hs hf, h.stepUnits_armed hs,
    State.unspecify_defined (s := s.restTick.start) (h.defined_in_flight hq)] at hstep
  exact ⟨_, hstep, rfl, rfl, hlc, hl.noError, ⟨rfl, rfl, rfl, rfl, rfl, rfl, rfl, rfl, rfl⟩, rfl, rfl, rfl,
    hc.gen_start⟩

/-- Settles O30: such a tick steps the units and `TCNT` (`State.engine_count`). -/
theorem runningTickCounts : Obligations.RunningTickCounts := by
  intro s h hr hs hf hp
  have hq : s.seq ≠ .idle := by simp [hs]
  obtain ⟨rej, hstep⟩ := h.step_in_flight hr hq
  rw [← s.isPoll_eq_false_iff, ← s.readsDone_eq_false_iff] at hp
  have hl := h.loaded hs
  rw [State.engine_count hs hf hp] at hstep
  exact ⟨_, hstep, hs, rfl, h.busy hq, hl.noError, hl.noResult, rfl, rfl, rfl, rfl, rfl, rfl, rfl, rfl, rfl, rfl⟩

/-- Settles O32: in both ticks the engine is at rest (`State.Inv.engine_after_done`, `State.Inv.engine_at_rest`), and
what is specified is not drawn. -/
theorem doneAndRestTicks : Obligations.DoneAndRestTicks := by
  intro s h hr hb
  rw [step_of_no_write hr hb, State.tick, id]
  refine ⟨fun hs => ?_, fun hs hio hrx => ?_, fun hs hio => ⟨_, rfl, ?_⟩⟩
  · have hio := h.defined_in_flight (s := s) (by simp [hs])
    obtain ⟨-, -, -, hrx, -⟩ := h.done hs
    rw [h.engine_after_done hs]
    exact congrArg _ (State.unspecify_nothing hio hrx)
  · rw [h.engine_at_rest hs hio]
    exact congrArg _ (State.unspecify_nothing hio hrx)
  · rw [h.engine_at_rest hs hio, State.unspecify_defined (s := s.restTick) hio]

/-- Settles O33: the branch of the timeout (`State.engine_timeout`). -/
theorem pollTimesOut : Obligations.PollTimesOut := by
  intro s h hr hs hf h0 hmod hd hl
  obtain ⟨rej, hstep⟩ := h.step_in_flight hr (by simp [hs])
  rw [State.engine_timeout hs hf (s.isPoll_iff.2 ⟨h0, hmod⟩) (s.readsDone_eq_false_iff.2 hd) hl] at hstep
  exact ⟨_, hstep, rfl, rfl, rfl, rfl, rfl, rfl, rfl, rfl, rfl, rfl, rfl, rfl, rfl, rfl, rfl, rfl⟩

/-- Settles O34: the driver's failure comes before the other branches (`State.engine_driver_error`). -/
theorem driverErrorInFlight : Obligations.DriverErrorInFlight := by
  intro s h hr hs hf
  obtain ⟨rej, hstep⟩ := h.step_in_flight hr (by rcases hs with hs | hs <;> simp [hs])
  obtain ⟨n, he⟩ := State.engine_driver_error hs hf
  rw [he] at hstep
  exact ⟨_, hstep, rfl, rfl, rfl, rfl, rfl, rfl, rfl, rfl, rfl, rfl, rfl, rfl, rfl, rfl, rfl⟩

/-! #### The deadline (R167, R168, R172) -/

/-- The digitizer of a transfer in flight is `DONE` exactly from the tick after the last sample on
(44_digitizer_sampler.md R230). -/
theorem State.DigitizerPhase.done_iff {s : State} {t : Nat} (hc : s.Configured) (hl : s.Loaded)
    (h : s.DigitizerPhase t) :
    s.dig.st = .done ↔ lastSampleTick s.latch.nBits s.mode.phase s.halfBit + 1 ≤ t := by
  refine ⟨fun hd => (h.complete hd).2, fun hle => ?_⟩
  have hD := hc.positive
  have hsplit : lastSampleTick s.latch.nBits s.mode.phase s.halfBit =
      s.triggerTick + (2 * s.latch.nBits + 1) * s.halfBit := by
    unfold lastSampleTick State.triggerTick
    ring
  cases hst : s.dig.st with
  | ready => exact absurd hst h.notReady
  | armed =>
    have := (h.waiting hst).1
    omega
  | running =>
    obtain ⟨-, hidx, hcnt, -, htime⟩ := h.storing hst
    rw [hl.samples, sampleCount] at hidx
    have := Nat.mul_le_mul_right s.halfBit (show s.dig.widx ≤ 2 * s.latch.nBits + 1 by omega)
    omega
  | done => rfl

/-- The last sample comes before the deadline (R172). -/
theorem State.Loaded.lastSample_lt_deadline {s : State} (hl : s.Loaded) (hc : s.Configured) :
    lastSampleTick s.latch.nBits s.mode.phase s.halfBit < s.latch.deadline := by
  have hrun := (runLength_window s.latch.nBits hc.positive).1
  have hphase : s.mode.phase ≤ 1 := by
    unfold ProtocolMode.phase
    cases s.mode.cpha <;> decide
  have hmul := Nat.mul_le_mul_right s.halfBit
    (show 2 * s.latch.nBits + 2 + s.mode.phase ≤ 2 * s.latch.nBits + 3 by omega)
  have hsplit : (2 * s.latch.nBits + 3) * s.halfBit = 2 * s.latch.nBits * s.halfBit + 3 * s.halfBit := by ring
  rw [hl.deadline, deadlineOf, hl.run, lastSampleTick]
  omega

/-- At its deadline a transfer in flight has its samples. -/
theorem State.Inv.done_at_deadline {s : State} (h : s.Inv) (hs : s.seq = .running)
    (hl : s.latch.deadline ≤ s.tcnt) : s.dig.st = .done := by
  obtain ⟨-, hc, -⟩ := h.in_flight (s := s) (by simp [hs])
  have := (h.loaded hs).lastSample_lt_deadline hc
  rw [(h.digitizer hs).done_iff hc (h.loaded hs)]
  omega

theorem State.Inv.pollTicks_pos {s : State} (h : s.Inv) : 1 ≤ s.params.pollTicks.toNat := by
  have := h.params
  simp only [Config.Params.wellFormed, Bool.and_eq_true, decide_eq_true_eq] at this
  exact this.2

theorem State.Loaded.deadline_pos {s : State} (hl : s.Loaded) (hc : s.Configured) : 0 < s.latch.deadline :=
  (Nat.zero_le _).trans_lt (hl.lastSample_lt_deadline hc)

/-- The first poll tick at or after the deadline comes less than a poll interval after it. -/
theorem lastPollTick_le (poll deadline : Nat) : lastPollTick poll deadline ≤ deadline + poll - 1 :=
  Nat.mul_div_le _ _

/-- A poll tick at or after the deadline does not come before the first one. -/
theorem lastPollTick_le_of_poll {poll deadline t : Nat} (hp : 1 ≤ poll) (hmod : t % poll = 0) (hle : deadline ≤ t) :
    lastPollTick poll deadline ≤ t := by
  obtain ⟨q, rfl⟩ := Nat.dvd_of_mod_eq_zero hmod
  refine Nat.mul_le_mul_left poll (Nat.lt_succ_iff.1 ((Nat.div_lt_iff_lt_mul hp).2 ?_))
  have : q.succ * poll = poll * q + poll := by rw [Nat.succ_mul, Nat.mul_comm]
  omega

/-- Everything a tick of a running transfer can do: it ends in `IDLE` with an error or a reset, in `DONE`, or counts; a
timeout records that completion was withheld from a digitizer that had its samples, at the last poll tick, and no
tick counts there. -/
theorem State.Inv.step_running {s t : State} (h : s.Inv) (hs : s.seq = .running) (hstep : step s = .next t) :
    (t.seq = .idle ∧ t.err ≠ .timeout) ∨
    (t.seq = .idle ∧ s.withheld = true ∧ s.tcnt = lastPollTick s.params.pollTicks.toNat s.latch.deadline) ∨
    (t.seq = .done ∧ t.err = .none) ∨
    (s.tcnt < lastPollTick s.params.pollTicks.toNat s.latch.deadline ∧ t.seq = .running ∧ t.tcnt = s.tcnt + 1 ∧
      t.latch = s.latch ∧ t.params = s.params ∧ t.err = .none) := by
  have hq : s.seq ≠ .idle := by simp [hs]
  have hl := h.loaded hs
  have hdl := hl.deadline_pos (h.in_flight hq).2.1
  cases hr : s.rst with
  | true =>
    cases (step_reset hr).symm.trans hstep
    exact .inl ⟨rfl, nofun⟩
  | false =>
    obtain ⟨rej, hstep'⟩ := h.step_in_flight hr hq
    cases hstep.symm.trans hstep'
    rw [State.engine_eq_sequence_stepUnits]
    rcases s.sequence_cases s.stepUnits with ⟨hs', -⟩ | ⟨hs', -⟩ | ⟨hs', -⟩ | ⟨-, -, he⟩ | ⟨-, -, -, -, he⟩ |
      ⟨-, -, hp, hd, hle, he⟩ | ⟨-, -, hp, he⟩ | ⟨hs', -⟩
    · cases hs'.symm.trans hs
    · cases hs'.symm.trans hs
    · cases hs'.symm.trans hs
    · rw [he]
      exact .inl ⟨rfl, nofun⟩
    · rw [he]
      exact .inr (.inr (.inl ⟨rfl, rfl⟩))
    · rw [he]
      have hwithheld := (s.readsDone_eq_false_iff.1 hd).resolve_left (absurd (h.done_at_deadline hs hle))
      exact .inr (.inl ⟨rfl, hwithheld,
        (h.bounded hs).antisymm (lastPollTick_le_of_poll h.pollTicks_pos (s.isPoll_iff.1 hp).2 hle)⟩)
    · rw [he]
      have hlt := State.tcnt_lt_lastPollTick h.pollTicks_pos hdl (h.bounded hs) (hp.imp_right And.right)
      exact .inr (.inr (.inr ⟨hlt, hs, rfl, rfl, rfl, hl.noError⟩))
    · cases hs'.symm.trans hs

/-- Settles O35, by what a tick of a running transfer can do (`State.Inv.step_running`). -/
theorem noFalseTimeout : Obligations.NoFalseTimeout := by
  intro s h hs
  refine ⟨h.done_at_deadline hs, h.bounded hs, lastPollTick_le _ _, fun t hstep ht => ?_,
    fun t hstep hlast ht => ?_⟩ <;>
    rcases h.step_running hs hstep with ⟨hseq, herr⟩ | ⟨hseq, hw⟩ | ⟨hseq, herr⟩ | ⟨hlt, hseq, -, -, -, herr⟩
  · exact absurd ht herr
  · exact hw
  · cases ht.symm.trans herr
  · cases ht.symm.trans herr
  · cases ht.symm.trans hseq
  · cases ht.symm.trans hseq
  · cases ht.symm.trans hseq
  · exact absurd hlast hlt.ne

end Sys2Proof.Machine

/-! ### The run of a transfer (42_transfer_sequencer.md R170, R171) -/

namespace Sys2Proof.Machine

open Sys2Proof

/-! #### Runs -/

theorem step_next (s : State) : step s = .next s.next := by
  obtain ⟨t, ht⟩ := step_total s
  rw [State.next, ht]

theorem State.next_eq {s t : State} (h : step s = .next t) : s.next = t := by rw [State.next, h]

theorem State.Inv.next {s : State} (h : s.Inv) : s.next.Inv := invStep s _ h (step_next s)

/-- The last tick of a run, where `State.after` unfolds the first. -/
theorem State.after_succ (s : State) (k : Nat) : s.after (k + 1) = (s.after k).next := by
  induction k generalizing s with
  | zero => rfl
  | succ k ih => exact ih s.next

theorem throughout_iff (P : State → Bool) (k : Nat) (s : State) :
    Throughout P k s = true ↔ ∀ i, i < k → P (s.after i) = true := by
  induction k generalizing s with
  | zero => simp [Throughout]
  | succ k ih =>
    rw [Throughout, Bool.and_eq_true, ih]
    refine ⟨fun ⟨h0, hrest⟩ i hi => ?_, fun h => ⟨h 0 k.succ_pos, fun i hi => h (i + 1) (by omega)⟩⟩
    cases i with
    | zero => exact h0
    | succ i => exact hrest i (by omega)

/-! #### `BUSY` always clears (R170) -/

/-- The tick after completion leaves everything but `SEQ`, `STATUS.REJ` and what a tick at rest changes. -/
theorem State.Inv.next_of_done {s : State} (h : s.Inv) (hr : s.rst = false) (hs : s.seq = .done) :
    ∃ rej, s.next = { s.restTick with seq := .idle, rej := rej } := by
  have hq : s.seq ≠ .idle := by simp [hs]
  obtain ⟨rej, hstep⟩ := h.step_in_flight hr hq
  obtain ⟨-, -, -, hrx, -⟩ := h.done hs
  have hspec : State.unspecify { s.restTick with seq := .idle } = { s.restTick with seq := .idle } :=
    State.unspecify_nothing (h.defined_in_flight hq) hrx
  rw [h.engine_after_done hs, hspec] at hstep
  exact ⟨rej, State.next_eq hstep⟩

theorem State.Inv.next_idle_of_done {s : State} (h : s.Inv) (hs : s.seq = .done) : s.next.seq = .idle := by
  cases hr : s.rst with
  | true => rw [State.next_eq (step_reset hr), State.resetTick_seq]
  | false =>
    obtain ⟨rej, he⟩ := h.next_of_done hr hs
    rw [he]

/-- A tick with `SEQ = ARMED` is START, or the transfer is over. -/
theorem State.Inv.next_of_armed {s : State} (h : s.Inv) (hs : s.seq = .armed) : s.next.seq = .idle ∨
    (s.next.seq = .running ∧ s.next.tcnt = 0 ∧ s.next.latch = s.latch ∧ s.next.params = s.params) := by
  cases hr : s.rst with
  | true => exact .inl (by rw [State.next_eq (step_reset hr), State.resetTick_seq])
  | false =>
    obtain ⟨rej, hstep⟩ := h.step_in_flight hr (by simp [hs])
    rw [State.next_eq hstep]
    cases hf : s.driverFault with
    | true =>
      obtain ⟨n, he⟩ := State.engine_driver_error (.inl hs) hf
      rw [he]
      exact .inl rfl
    | false =>
      rw [State.engine_start hs hf]
      exact .inr ⟨rfl, rfl, rfl, rfl⟩

/-- A running transfer is over within two ticks, or it is before its last poll tick and counts. -/
theorem State.Inv.next_of_running {s : State} (h : s.Inv) (hs : s.seq = .running) :
    (∃ k, k ≤ 2 ∧ (s.after k).seq = .idle) ∨
    (s.tcnt < lastPollTick s.params.pollTicks.toNat s.latch.deadline ∧ s.next.seq = .running ∧
      s.next.tcnt = s.tcnt + 1 ∧ s.next.latch = s.latch ∧ s.next.params = s.params) := by
  rcases h.step_running hs (step_next s) with ⟨hi, -⟩ | ⟨hi, -⟩ | ⟨hd, -⟩ | ⟨hlt, hrun, htc, hla, hpar, -⟩
  · exact .inl ⟨1, one_le_two, hi⟩
  · exact .inl ⟨1, one_le_two, hi⟩
  · exact .inl ⟨2, le_rfl, h.next.next_idle_of_done hd⟩
  · exact .inr ⟨hlt, hrun, htc, hla, hpar⟩

/-- With at most `m` ticks to its last poll tick a running transfer is over within `m + 2` ticks. -/
theorem State.Inv.running_clears {s : State} (h : s.Inv) (hs : s.seq = .running) {m : Nat}
    (hm : lastPollTick s.params.pollTicks.toNat s.latch.deadline ≤ s.tcnt + m) :
    ∃ k, k ≤ m + 2 ∧ (s.after k).seq = .idle := by
  induction m generalizing s with
  | zero =>
    rcases h.next_of_running hs with hover | ⟨hlt, -⟩
    · exact hover
    · omega
  | succ m ih =>
    rcases h.next_of_running hs with ⟨k, hk, hidle⟩ | ⟨-, hrun, htc, hla, hpar⟩
    · exact ⟨k, by omega, hidle⟩
    · obtain ⟨k, hk, hidle⟩ := ih h.next hrun (by rw [hla, hpar, htc]; omega)
      exact ⟨k + 1, by omega, hidle⟩

/-- Settles O36, by the state of the sequencer; a running transfer by induction on the ticks to its last poll
(`State.Inv.running_clears`). -/
theorem busyAlwaysClears : Obligations.BusyAlwaysClears := by
  intro s h
  cases hs : s.seq with
  | idle => exact ⟨0, Nat.zero_le _, hs⟩
  | armed =>
    rcases h.next_of_armed hs with hidle | ⟨hrun, htc, hla, hpar⟩
    · exact ⟨1, by omega, hidle⟩
    · obtain ⟨k, hk, hidle⟩ := h.next.running_clears hrun (Nat.le_add_left _ s.next.tcnt)
      rw [hla, hpar] at hk
      exact ⟨k + 1, by omega, hidle⟩
  | running =>
    obtain ⟨k, hk, hidle⟩ := h.running_clears hs (Nat.le_add_left _ s.tcnt)
    exact ⟨k, by omega, hidle⟩
  | done => exact ⟨1, by omega, h.next_idle_of_done hs⟩

/-! #### The timeline of a fault-free transfer (R171, R174) -/

theorem State.KeepsRegisters.trans {s t u : State} (h : s.KeepsRegisters t) (h' : t.KeepsRegisters u) :
    s.KeepsRegisters u := by
  obtain ⟨h1, h2, h3, h4, h5, h6, h7, h8, h9⟩ := h
  obtain ⟨h1', h2', h3', h4', h5', h6', h7', h8', h9'⟩ := h'
  exact ⟨h1'.trans h1, h2'.trans h2, h3'.trans h3, h4'.trans h4, h5'.trans h5, h6'.trans h6, h7'.trans h7,
    h8'.trans h8, h9'.trans h9⟩

/-- A quiet tick has no reset, no driver failure, and does not withhold completion (10_state.md R31). -/
theorem State.quiet_spec {s : State} (h : s.quiet = true) :
    s.rst = false ∧ s.driverFault = false ∧ s.withheld = false := by
  simp only [State.quiet, Bool.and_eq_true, Bool.not_eq_true', beq_iff_eq] at h
  obtain ⟨hr, hf⟩ := h
  rw [State.driverFault, State.withheld, hf]
  exact ⟨hr, rfl, rfl⟩

/-- `u` is tick `t`, counted from START, of the transfer of the request in `s`, which has its result still before
it. -/
structure State.TransferAt (s u : State) (t : Nat) : Prop where
  inv : u.Inv
  running : u.seq = .running
  count : u.tcnt = t
  registers : s.KeepsRegisters u
  latch : u.latch = s.load.latch
  pattern : u.pat = s.pattern

/-- The tick of a TRANSFER that the block accepts and whose request fits. -/
theorem State.next_of_startsTransfer {s : State} (hst : s.startsTransfer = true) (hq : s.quiet = true) :
    s.next = s.stepUnits.accept.load.unspecify := by
  obtain ⟨hr, hf, -⟩ := State.quiet_spec hq
  simp only [State.startsTransfer, Bool.and_eq_true, beq_iff_eq, Bool.not_eq_true'] at hst
  obtain ⟨⟨hreq, hacc⟩, hc⟩ := hst
  obtain ⟨hs, hlc⟩ := (s.accepts_iff _).1 hacc
  have hstep : step s = exec .transfer s := by
    rw [step, hr, hreq]
    rfl
  exact State.next_eq (hstep.trans (State.exec_transfer_loads (by simpa [acceptedIn] using hlc) hs hc hf))

/-- Two ticks after the command is START, tick 0 (R163). -/
theorem State.Inv.transferAt_zero {s : State} (h : s.Inv) (hst : s.startsTransfer = true) (hq : s.quiet = true)
    (hq' : s.next.quiet = true) : s.TransferAt (s.atTick 0) 0 := by
  obtain ⟨hr, hf, -⟩ := State.quiet_spec hq'
  have hload := State.next_of_startsTransfer hst hq
  have harmed : s.next.seq = .armed := congrArg State.seq hload
  have hio := h.next.defined_in_flight (s := s.next) (by simp [harmed])
  obtain ⟨rej, hstep⟩ := h.next.step_in_flight hr (by simp [harmed])
  have hstart := State.next_eq hstep
  rw [State.engine_start harmed hf, State.unspecify_defined (s := s.next.stepUnits.start) hio] at hstart
  have hpat : s.next.pat = s.pattern := by
    have hio' : s.ioFree = false := (congrArg State.ioFree hload).symm.trans hio
    rw [hload, State.unspecify_defined (s := s.stepUnits.accept.load) hio']
    rfl
  have hregs : s.KeepsRegisters s.next := by
    rw [hload]
    exact ⟨rfl, rfl, rfl, rfl, rfl, rfl, rfl, rfl, rfl⟩
  have hlatch : s.next.latch = s.load.latch := by
    rw [hload]
    rfl
  have hinv := h.next.next
  change s.TransferAt s.next.next 0
  rw [hstart] at hinv ⊢
  exact ⟨hinv, rfl, rfl, hregs.trans ⟨rfl, rfl, rfl, rfl, rfl, rfl, rfl, rfl, rfl⟩, hlatch, hpat⟩

theorem State.TransferAt.in_flight {s u : State} {t : Nat} (h : s.TransferAt u t) : u.seq ≠ .idle := by
  simp [h.running]

/-- The digitizer of the transfer is `DONE` from the tick after its last sample on. -/
theorem State.TransferAt.done_iff {s u : State} {t : Nat} (h : s.TransferAt u t) :
    u.dig.st = .done ↔ lastSampleTick s.reqBits s.mode.phase s.halfBit + 1 ≤ t := by
  obtain ⟨-, -, hmode, -, -, -, -, htd, -⟩ := h.registers
  have hhalf : u.halfBit = s.halfBit := by rw [State.halfBit, htd, State.halfBit]
  have hiff := (h.inv.digitizer h.running).done_iff (h.inv.in_flight h.in_flight).2.1 (h.inv.loaded h.running)
  rw [h.count, hhalf, hmode, h.latch] at hiff
  exact hiff

/-- The first poll tick after the last sample is the first poll tick at or after the tick that follows it. -/
theorem State.reqPollTick_eq (s : State) : s.reqPollTick =
    lastPollTick s.params.pollTicks.toNat (lastSampleTick s.reqBits s.mode.phase s.halfBit + 1) := rfl

theorem State.TransferAt.pollTicks_eq {s u : State} {t : Nat} (h : s.TransferAt u t) :
    u.params.pollTicks = s.params.pollTicks := by
  obtain ⟨hpar, -⟩ := h.registers
  rw [hpar]

/-- Before the poll that reads `DONE` a tick of the transfer counts. -/
theorem State.TransferAt.next {s u : State} {t : Nat} (h : s.TransferAt u t) (hq : u.quiet = true)
    (ht : t < s.reqPollTick) : s.TransferAt u.next (t + 1) := by
  obtain ⟨hr, hf, -⟩ := State.quiet_spec hq
  have hp : u.isPoll = false ∨ (u.readsDone = false ∧ u.tcnt < u.latch.deadline) := by
    by_cases hd : u.dig.st = .done
    · refine .inl (u.isPoll_eq_false_iff.2 fun ⟨_, hmod⟩ => ?_)
      rw [h.count, h.pollTicks_eq] at hmod
      have := lastPollTick_le_of_poll (h.pollTicks_eq ▸ h.inv.pollTicks_pos) hmod (h.done_iff.1 hd)
      rw [s.reqPollTick_eq] at ht
      omega
    · refine .inr ⟨u.readsDone_eq_false_iff.2 (.inl hd), ?_⟩
      by_contra hdl
      exact hd (h.inv.done_at_deadline h.running (by omega))
  obtain ⟨rej, hstep⟩ := h.inv.step_in_flight hr h.in_flight
  have hnext := State.next_eq hstep
  rw [State.engine_count h.running hf hp, State.unspecify_defined (s := { u.stepUnits with tcnt := u.tcnt + 1 })
    (h.inv.defined_in_flight h.in_flight)] at hnext
  have hinv := h.inv.next
  rw [hnext] at hinv ⊢
  exact ⟨hinv, h.running, congrArg (· + 1) h.count,
    h.registers.trans ⟨rfl, rfl, rfl, rfl, rfl, rfl, rfl, rfl, rfl⟩, h.latch, h.pattern⟩

/-- The poll that reads `DONE`. -/
theorem State.TransferAt.next_completes {s u : State} (h : s.TransferAt u s.reqPollTick) (hq : u.quiet = true) :
    u.next.seq = .done ∧ u.next.rxLen.toNat = s.reqBytes := by
  obtain ⟨hr, hf, hw⟩ := State.quiet_spec hq
  obtain ⟨hmod, hle⟩ := lastPollTick_spec (deadline := lastSampleTick s.reqBits s.mode.phase s.halfBit + 1)
    (h.pollTicks_eq ▸ h.inv.pollTicks_pos)
  rw [← s.reqPollTick_eq] at hmod hle
  have hp : u.isPoll = true := by
    rw [u.isPoll_iff, h.count, h.pollTicks_eq]
    exact ⟨by omega, hmod⟩
  obtain ⟨rej, hstep⟩ := h.inv.step_in_flight hr h.in_flight
  rw [State.engine_complete h.running hf hp (u.readsDone_iff.2 ⟨h.done_iff.2 hle, hw⟩)] at hstep
  rw [State.next_eq hstep]
  refine ⟨rfl, ?_⟩
  have hlen : u.decodedBytes.length = s.reqBytes := by
    rw [u.decodedBytes_length, h.latch]
    rfl
  simp only [State.unspecify_rxLen, State.complete_rxFree, State.complete_rxLen, hlen]
  exact Nat.mod_eq_of_lt s.xfer.byteCount.isLt

section Run

variable {s : State} (h : s.Inv) (hst : s.startsTransfer = true)
  (hq : Throughout State.quiet (s.reqPollTick + 4) s = true)

include h hst hq

/-- Every tick of a fault-free transfer from START to the poll that reads `DONE`, by induction on the tick. -/
theorem State.Inv.transferAt {t : Nat} (ht : t ≤ s.reqPollTick) : s.TransferAt (s.atTick t) t := by
  have quiet := (throughout_iff _ _ _).1 hq
  induction t with
  | zero => exact h.transferAt_zero hst (quiet 0 (by omega)) (quiet 1 (by omega))
  | succ t ih =>
    have hnext := (ih (by omega)).next (quiet (t + 2) (by omega)) (by omega)
    rwa [State.atTick, ← State.after_succ] at hnext

/-- The tick after the poll that reads `DONE`: the `n` bytes are offered. -/
theorem State.Inv.transfer_done : (s.atTick (s.reqPollTick + 1)).Inv ∧
    (s.atTick (s.reqPollTick + 1)).seq = .done ∧ (s.atTick (s.reqPollTick + 1)).rxLen.toNat = s.reqBytes := by
  have hpoll := h.transferAt hst hq le_rfl
  have hnext : s.atTick (s.reqPollTick + 1) = (s.atTick s.reqPollTick).next := s.after_succ (s.reqPollTick + 2)
  rw [hnext]
  exact ⟨hpoll.inv.next, hpoll.next_completes ((throughout_iff _ _ _).1 hq _ (by omega))⟩

/-- The tick after that one differs from it in `SEQ`, `STATUS.REJ` and what a tick at rest changes. -/
theorem State.Inv.transfer_over :
    ∃ rej, s.after (4 + s.reqPollTick) = { (s.atTick (s.reqPollTick + 1)).restTick with seq := .idle, rej := rej } := by
  obtain ⟨hinv, hdone, -⟩ := h.transfer_done hst hq
  obtain ⟨hr, -⟩ := State.quiet_spec ((throughout_iff _ _ _).1 hq (s.reqPollTick + 3) (by omega))
  rw [Nat.add_comm, s.after_succ (s.reqPollTick + 3)]
  exact hinv.next_of_done hr hdone

end Run

/-- Settles O37: the ticks up to the poll by induction (`State.Inv.transferAt`), then the completing tick and the tick
after it. -/
theorem transferTimeline : Obligations.TransferTimeline := by
  intro s h hst hq
  have harmed : (s.after 1).seq = .armed :=
    congrArg State.seq (State.next_of_startsTransfer hst ((throughout_iff _ _ _).1 hq 0 (by omega)))
  obtain ⟨hinv, hdone, hlen⟩ := h.transfer_done hst hq
  obtain ⟨-, -, hvalid, -, herr⟩ := hinv.done hdone
  have hlc := hinv.busy (by simp [hdone])
  obtain ⟨rej, hover⟩ := h.transfer_over hst hq
  have hidle : s.atTick (s.reqPollTick + 2) = s.after (4 + s.reqPollTick) := by rw [Nat.add_comm 4, State.atTick]
  refine ⟨harmed, fun t ht => ?_, hdone, hvalid, ?_⟩
  · have hat := h.transferAt hst hq ht
    exact ⟨hat.running, hat.count⟩
  · rw [hidle, hover]
    exact ⟨rfl, hvalid, herr, hlc, hlen⟩

end Sys2Proof.Machine

/-! ### The widths of the counters (10_state.md R24 to R29, 42_transfer_sequencer.md R158) -/

namespace Sys2Proof.Machine

open Sys2Proof

/-! #### A channel -/

theorem Channel.fits_iff (c : Channel) : c.fits = true ↔
    c.div < 2 ^ 48 ∧ c.divInit < 2 ^ 48 ∧ c.lowCnt < 2 ^ 16 ∧ c.highCnt < 2 ^ 16 ∧ c.patLen < 2 ^ 10 ∧
      c.dcnt < 2 ^ 48 ∧ c.pcnt < 2 ^ 16 ∧ c.idx < 2 ^ 10 := by
  simp only [Channel.fits, Bool.and_eq_true, decide_eq_true_eq, and_assoc]
  rfl

theorem Channel.stepsAt_lt {c : Channel} (h : c.fits = true) (level : Bool) : c.stepsAt level < 2 ^ 16 := by
  obtain ⟨-, -, hlow, hhigh, -⟩ := c.fits_iff.1 h
  cases level
  · exact hlow
  · exact hhigh

theorem Channel.pulseStep_fits {c : Channel} (h : c.fits = true) : c.pulseStep.fits = true := by
  have hsteps := Channel.stepsAt_lt h
  obtain ⟨hdiv, hinit, hlow, hhigh, hpat, hdcnt, hpcnt, hidx⟩ := c.fits_iff.1 h
  rw [Channel.fits_iff]
  unfold Channel.pulseStep
  split_ifs
  · exact ⟨hdiv, hinit, hlow, hhigh, hpat, by dsimp only; omega, hpcnt, hidx⟩
  · exact ⟨hdiv, hinit, hlow, hhigh, hpat, hdiv, by dsimp only; omega, hidx⟩
  · exact ⟨hdiv, hinit, hlow, hhigh, hpat, hdiv, hsteps _, hidx⟩
  · exact ⟨hdiv, hinit, hlow, hhigh, hpat, hdiv, hsteps _, hidx⟩

theorem Channel.customStep_fits {c : Channel} (h : c.fits = true) (hnext : c.idx + 1 < 2 ^ 10) :
    c.customStep.fits = true := by
  obtain ⟨hdiv, hinit, hlow, hhigh, hpat, hdcnt, hpcnt, hidx⟩ := c.fits_iff.1 h
  rw [Channel.fits_iff]
  unfold Channel.customStep
  split_ifs
  · exact ⟨hdiv, hinit, hlow, hhigh, hpat, by dsimp only; omega, hpcnt, hidx⟩
  · exact ⟨hdiv, hinit, hlow, hhigh, hpat, hdiv, hpcnt, hnext⟩

theorem Channel.tick_fits {c : Channel} (h : c.fits = true) (hnext : c.dtype = .custom → c.idx + 1 < 2 ^ 10) :
    c.tick.fits = true := by
  unfold Channel.tick
  cases hd : c.dtype with
  | pulse => exact Channel.pulseStep_fits h
  | custom => exact Channel.customStep_fits h (hnext hd)

theorem Channel.start_fits {c : Channel} (h : c.fits = true) : c.start.fits = true := by
  have hsteps := Channel.stepsAt_lt h
  obtain ⟨hdiv, hinit, hlow, hhigh, hpat, -, hpcnt, hidx⟩ := c.fits_iff.1 h
  rw [Channel.fits_iff]
  unfold Channel.start
  cases c.dtype
  · exact ⟨hdiv, hinit, hlow, hhigh, hpat, hinit, hsteps _, hidx⟩
  · exact ⟨hdiv, hinit, hlow, hhigh, hpat, hinit, hpcnt, Nat.two_pow_pos _⟩

theorem Channel.free_fits (unit stamp : Nat) : (Channel.free unit stamp).fits = true :=
  (Channel.fits_iff _).2 ⟨BitVec.isLt _, BitVec.isLt _, BitVec.isLt _, BitVec.isLt _, BitVec.isLt _, BitVec.isLt _,
    BitVec.isLt _, BitVec.isLt _⟩

/-- The channels as CONFIGURE programs them, for a divider of 32 bits (41_configure.md R126 to R128). -/
theorem configured_channels_fit (p : PinAssignment) (m : ProtocolMode) {D : Nat} (hD : D < 2 ^ 32) :
    (ssChannel p).fits = true ∧ (sclkChannel p m D).fits = true ∧ (mosiChannel p m D).fits = true := by
  have hoffset : m.phase * D < 2 ^ 32 := by
    rw [ProtocolMode.phase_mul]
    split_ifs <;> omega
  refine ⟨rfl, (Channel.fits_iff _).2 ?_, (Channel.fits_iff _).2 ?_⟩ <;>
    simp only [sclkChannel, mosiChannel, Channel.reset] <;> omega

/-! #### The generator, the digitizer and the latches -/

/-- The counters of the generator fit their widths (10_state.md R24, R25). -/
def Generator.Fits (g : Generator) : Prop :=
  (g.ss.fits = true ∧ g.sclk.fits = true ∧ g.mosi.fits = true) ∧ g.runLen < 2 ^ Config.tickBits ∧
    g.rt < 2 ^ Config.tickBits

/-- The latches fit their widths (10_state.md R29). -/
def Latches.Fits (l : Latches) : Prop :=
  l.n < 2 ^ 7 ∧ l.e < 2 ^ 10 ∧ l.nBits < 2 ^ 11 ∧ l.nSamp < 2 ^ 11 ∧ l.deadline < 2 ^ Config.tickBits

theorem Generator.reset_fits : Generator.reset.Fits := by
  unfold Generator.Fits
  decide

theorem Latches.reset_fits : Latches.reset.Fits := by
  unfold Latches.Fits
  decide

theorem Generator.free_fits (stamp : Nat) : (Generator.free stamp).Fits :=
  ⟨⟨Channel.free_fits 0 stamp, Channel.free_fits 1 stamp, Channel.free_fits 2 stamp⟩, BitVec.isLt _, BitVec.isLt _⟩

theorem Generator.start_fits {g : Generator} (h : g.Fits) : g.start.Fits := by
  obtain ⟨⟨hss, hsclk, hmosi⟩, hlen, -⟩ := h
  exact ⟨⟨Channel.start_fits hss, Channel.start_fits hsclk, Channel.start_fits hmosi⟩, hlen, Nat.two_pow_pos _⟩

/-- A running generator with room for one more tick and one more pattern bit still fits after the tick. -/
theorem Generator.tick_fits {g : Generator} (h : g.Fits) (hrun : g.running = true →
    g.ss.dtype = .pulse ∧ g.sclk.dtype = .pulse ∧ g.mosi.idx + 1 < 2 ^ 10 ∧ g.rt < g.runLen) : g.tick.Fits := by
  cases hr : g.running with
  | false => rwa [g.tick_stopped hr]
  | true =>
    obtain ⟨dss, dsclk, hidx, hrt⟩ := hrun hr
    obtain ⟨⟨hss, hsclk, hmosi⟩, hlen, -⟩ := h
    rw [g.tick_running hr]
    exact ⟨⟨Channel.tick_fits hss (by simp [dss]), Channel.tick_fits hsclk (by simp [dsclk]),
      Channel.tick_fits hmosi fun _ => hidx⟩, hlen, Nat.lt_of_le_of_lt hrt hlen⟩

theorem Digitizer.fits_iff (g : Digitizer) : g.fits = true ↔
    g.sdiv < 2 ^ 48 ∧ g.fmt < 2 ^ 5 ∧ g.trigPos < 2 ^ 11 ∧ g.bufSize < 2 ^ 11 ∧ g.scnt < 2 ^ 48 ∧
      g.widx < 2 ^ 11 := by
  simp only [Digitizer.fits, Bool.and_eq_true, decide_eq_true_eq, and_assoc]
  rfl

theorem Digitizer.free_fits (stamp : Nat) : (Digitizer.free stamp).fits = true :=
  (Digitizer.fits_iff _).2 ⟨BitVec.isLt _, BitVec.isLt _, BitVec.isLt _, BitVec.isLt _, BitVec.isLt _, BitVec.isLt _⟩

/-- A running digitizer with room for one more sample still fits after the tick. -/
theorem Digitizer.tick_fits {g : Digitizer} (h : g.fits = true) (hrun : g.st = .running → g.widx + 1 < 2 ^ 11)
    (pins : PinWord) : (g.tick pins).fits = true := by
  obtain ⟨hsdiv, hfmt, htrig, hbuf, hscnt, hwidx⟩ := g.fits_iff.1 h
  rw [Digitizer.fits_iff]
  rcases g.tick_cases pins with ⟨-, -, he⟩ | ⟨-, -, he⟩ | ⟨hr, -, he⟩ | ⟨-, -, he⟩ <;> rw [he]
  · exact ⟨hsdiv, hfmt, htrig, hbuf, hsdiv, Nat.one_lt_two_pow (by decide)⟩
  · exact ⟨hsdiv, hfmt, htrig, hbuf, by dsimp only; omega, hwidx⟩
  · exact ⟨hsdiv, hfmt, htrig, hbuf, hsdiv, hrun hr⟩
  · exact ⟨hsdiv, hfmt, htrig, hbuf, hscnt, hwidx⟩

/-! #### The numbers of a transfer (R158) -/

/-- A divider is no larger than the clock frequency. -/
theorem State.divider_lt (s : State) : s.divider < 2 ^ 32 := (Nat.div_le_self _ _).trans_lt s.params.fSys.isLt

/-- The deadline of a request that fits: with at most 510 bits and half a bit period below `2^32`. -/
theorem deadline_lt {N D : Nat} (hN : N ≤ 510) (hD : D < 2 ^ 32) : deadlineOf (runLength N D) D < 2 ^ 47 := by
  have := Nat.mul_le_mul_right D (show 2 * N ≤ 1020 by omega)
  unfold deadlineOf runLength
  omega

theorem State.Loaded.nBits_le {s : State} (h : s.Loaded) : s.latch.nBits ≤ 510 := by
  have hcap := h.capacity
  rw [h.samples, sampleCount, Config.maxSamples] at hcap
  omega

/-- A transfer in flight has a tick left before its counter of ticks is full: it is over by the last poll tick. -/
theorem State.Inv.tcnt_succ_lt {s : State} (h : s.Inv) (hs : s.seq = .running) : s.tcnt + 1 < 2 ^ 48 := by
  have hl := h.loaded hs
  have hdl := deadline_lt hl.nBits_le s.tDiv.isLt
  have hbound := (h.bounded hs).trans (lastPollTick_le _ _)
  have hpoll := s.params.pollTicks.isLt
  rw [hl.deadline, hl.run] at hbound
  unfold State.halfBit at hbound
  omega

/-- A running generator of a transfer has room for one more tick and one more pattern bit: the run ends within the
window of the first bit after the pattern. -/
theorem State.Inv.generator_has_room {s : State} (h : s.Inv) (hs : s.seq = .running) (hr : s.gen.running = true) :
    s.gen.ss.dtype = .pulse ∧ s.gen.sclk.dtype = .pulse ∧ s.gen.mosi.idx + 1 < 2 ^ 10 ∧ s.gen.rt < s.gen.runLen := by
  obtain ⟨-, hc, -⟩ := h.in_flight (s := s) (by simp [hs])
  obtain ⟨-, -, -, hss, -⟩ := hc.ss
  obtain ⟨-, -, -, hsclk, -⟩ := hc.sclk
  have hg := h.generator hs hr
  have hl := h.loaded hs
  have hin := hg.inRun
  refine ⟨hss, hsclk, ?_, hg.count ▸ hin⟩
  have hN := hl.nBits_le
  have hlen := (runLength_window s.latch.nBits hc.positive).2
  rw [← hl.run] at hlen
  rw [hg.mosi]
  rcases patternIndex_window s.halfBit s.mode.phase s.tcnt with h0 | hw
  · omega
  · have hlt : patternIndex s.halfBit s.mode.phase s.tcnt * 2 * s.halfBit < (2 * s.latch.nBits + 1) * s.halfBit := by
      rw [Nat.mul_assoc]
      omega
    have := Nat.lt_of_mul_lt_mul_right hlt
    omega

/-- A running digitizer of a transfer has room for one more sample. -/
theorem State.Inv.digitizer_has_room {s : State} (h : s.Inv) (hs : s.seq = .running) (hd : s.dig.st = .running) :
    s.dig.widx + 1 < 2 ^ 11 := by
  obtain ⟨-, hidx, -⟩ := (h.digitizer hs).storing hd
  have hcap := (h.loaded hs).capacity
  rw [Config.maxSamples] at hcap
  omega

/-! #### The tick -/

/-- The widths before the unspecified items are drawn: in the unspecified condition nothing is asked of the units. -/
structure State.PreFits (s : State) : Prop where
  gen : s.ioFree = false → s.gen.Fits
  dig : s.ioFree = false → s.dig.fits = true
  latches : s.latch.Fits
  count : s.tcnt < 2 ^ Config.tickBits

/-- The end of every tick draws the unspecified items within their widths. -/
theorem State.PreFits.unspecify_fits {s : State} (h : s.PreFits) : s.unspecify.Fits := by
  have hgen : s.unspecify.gen.Fits := by
    rw [State.unspecify_gen]
    split_ifs with hio
    · exact Generator.free_fits _
    · exact h.gen (by simpa using hio)
  have hdig : s.unspecify.dig.fits = true := by
    rw [State.unspecify_dig]
    split_ifs with hio
    · exact Digitizer.free_fits _
    · exact h.dig (by simpa using hio)
  obtain ⟨hchannels, hcounters⟩ := hgen
  exact ⟨hchannels, hcounters, hdig, h.latches, h.count⟩

theorem State.PreFits.raise {s : State} (h : s.PreFits) (e : ErrorEvent) : (s.raise e).PreFits :=
  ⟨fun hio => h.gen (Bool.or_eq_false_iff.1 hio).2, fun hio => h.dig (Bool.or_eq_false_iff.1 hio).2, h.latches, h.count⟩

/-- The units of a transfer in flight still fit after their step. -/
theorem State.Fits.stepUnits {s : State} (hf : s.Fits) (h : s.Inv) (hs : s.seq = .running) :
    State.PreFits { s.stepUnits with tcnt := s.tcnt + 1 } :=
  ⟨fun _ => Generator.tick_fits ⟨hf.channels, hf.generator⟩ (h.generator_has_room hs),
    fun _ => Digitizer.tick_fits hf.digitizer (h.digitizer_has_room hs) _, hf.latches, h.tcnt_succ_lt hs⟩

/-- A tick at rest counts nothing. -/
theorem State.Fits.restTick {s : State} (hf : s.Fits) : s.restTick.PreFits :=
  ⟨fun _ => ⟨hf.channels, hf.generator⟩, fun _ => hf.digitizer, hf.latches, hf.count⟩

/-- The engine keeps the widths, the drawing of the unspecified items apart. -/
theorem State.Inv.engine_preFits {s : State} (h : s.Inv) (hf : s.Fits) : s.engine.PreFits := by
  cases hs : s.seq with
  | idle =>
    cases hio : s.ioFree with
    | false =>
      rw [h.engine_at_rest hs hio]
      exact hf.restTick
    | true =>
      have hfree : ¬ s.stepUnits.ioFree = false := fun hio' => nomatch hio.symm.trans hio'
      rw [State.engine_eq_stepUnits hs]
      exact ⟨(absurd · hfree), (absurd · hfree), hf.latches, hf.count⟩
  | armed =>
    rw [State.engine_eq_sequence_stepUnits, State.sequence, hs, h.stepUnits_armed hs]
    dsimp only
    split_ifs
    · exact hf.restTick.raise .driver
    · exact ⟨fun _ => Generator.start_fits ⟨hf.channels, hf.generator⟩, fun _ => hf.digitizer, hf.latches,
        Nat.two_pow_pos _⟩
  | running =>
    have hunits := hf.stepUnits h hs
    rw [State.engine_eq_sequence_stepUnits, State.sequence, hs]
    dsimp only
    split_ifs
    · exact hunits.raise .driver
    · exact ⟨hunits.gen, hunits.dig, hunits.latches, hunits.count⟩
    · exact hunits.raise .timeout
    · exact hunits
    · exact hunits
  | done =>
    rw [h.engine_after_done hs]
    exact ⟨hf.restTick.gen, hf.restTick.dig, hf.latches, hf.count⟩

/-- A CONFIGURE whose checks have passed. -/
theorem State.PreFits.program {s : State} (h : s.PreFits) (hgen : s.gen.Fits) : s.program.PreFits := by
  obtain ⟨-, hcounters⟩ := hgen
  have hD := s.divider_lt
  refine ⟨fun _ => ⟨configured_channels_fit s.pins s.mode hD, hcounters⟩, fun _ => ?_, h.latches, h.count⟩
  rw [State.program_dig, Digitizer.fits_iff]
  simp only [configuredDigitizer, Digitizer.resetKeeping]
  omega

/-- The loading of a request that fits. -/
theorem State.PreFits.load {s : State} (h : s.PreFits) (hc : s.overCapacity = false) : s.load.PreFits := by
  have hfit : s.reqSamples < 1024 := (s.overCapacity_eq_false_iff.1 hc).2
  have hsamples : s.reqSamples = 2 * s.reqBits + 2 := rfl
  have hdl : deadlineOf (runLength s.reqBits s.halfBit) s.halfBit < 2 ^ 47 := deadline_lt (by omega) s.tDiv.isLt
  have hrun : runLength s.reqBits s.halfBit < 2 ^ 47 := (Nat.le_add_right _ _).trans_lt hdl
  refine ⟨fun hio => ?_, fun hio => ?_, ⟨s.xfer.byteCount.isLt, s.xfer.errClk.isLt, ?_, ?_, ?_⟩, h.count⟩
  · obtain ⟨⟨hss, hsclk, hmosi⟩, -, hrt⟩ := h.gen hio
    obtain ⟨hdiv, hinit, hlow, hhigh, -, hrest⟩ := (Channel.fits_iff _).1 hmosi
    have hpat : s.reqBits < 2 ^ 10 := by omega
    exact ⟨⟨hss, hsclk, (Channel.fits_iff _).2 ⟨hdiv, hinit, hlow, hhigh, hpat, hrest⟩⟩,
      hrun.trans (by decide), hrt⟩
  · obtain ⟨hsdiv, hfmt, -⟩ := (Digitizer.fits_iff _).1 (h.dig hio)
    have hsamp : s.reqSamples < 2 ^ 11 := by omega
    exact (Digitizer.fits_iff _).2 ⟨hsdiv, hfmt, hsamp, hsamp, Nat.two_pow_pos _, Nat.two_pow_pos _⟩
  · change s.reqBits < 2 ^ 11
    omega
  · change s.reqSamples < 2 ^ 11
    omega
  · exact hdl.trans (by decide)

/-- After `resetDigitalIO` the units fit. -/
theorem State.PreFits.prepared {s : State} (h : s.PreFits) : s.prepared.PreFits :=
  ⟨fun _ => Generator.reset_fits, fun _ => rfl, h.latches, h.count⟩

/-- No accepted command makes a counter outgrow its width. -/
theorem State.PreFits.effect {s : State} (h : s.PreFits) (i : Instr) (fault : Bool) : (s.effect i fault).PreFits := by
  have hprep := h.prepared
  rcases s.effect_cases i fault with ⟨-, he | he⟩ | ⟨-, he | he | he⟩ | ⟨rfl, -⟩ | ⟨-, he⟩
  · exact he ▸ h.raise .construct
  · rw [he]
    exact ⟨h.gen, h.dig, h.latches, h.count⟩
  · rw [he]
    exact ⟨hprep.gen, hprep.dig, hprep.latches, hprep.count⟩
  · rw [he]
    exact ⟨nofun, nofun, hprep.latches, hprep.count⟩
  · exact he ▸ hprep.program Generator.reset_fits
  · rw [State.effect]
    rcases s.transfer_cases fault with ⟨-, he⟩ | ⟨-, -, he⟩ | ⟨hc, -, he⟩ <;> rw [he]
    · exact h.raise .capacity
    · exact h.raise .driver
    · exact h.load hc
  · rw [he]
    exact ⟨fun _ => Generator.reset_fits, fun _ => rfl, Latches.reset_fits, Nat.two_pow_pos _⟩

/-- A host write that is no accepted command writes no counter. -/
theorem State.PreFits.operandsOnly {s t : State} (h : s.PreFits) (ht : s.OperandsOnly t) : t.PreFits := by
  rw [ht]
  exact ⟨h.gen, h.dig, h.latches, h.count⟩

/-- Settles O59: the engine keeps the widths (`State.Inv.engine_preFits`), so does what the host adds, and the end of
the tick draws the unspecified items within them (`State.PreFits.unspecify_fits`). -/
theorem countersFit : Obligations.CountersFit := by
  intro s t h hf hstep
  have hengine := h.engine_preFits hf
  rcases step_outcomes hstep with ⟨-, rfl⟩ | ⟨i, -, rfl⟩ | ⟨u, hu, rfl⟩
  · obtain ⟨hchannels, hcounters⟩ := Generator.reset_fits
    exact ⟨hchannels, hcounters, rfl, Latches.reset_fits, Nat.two_pow_pos _⟩
  · have haccept : s.engine.accept.PreFits := ⟨hengine.gen, hengine.dig, hengine.latches, hengine.count⟩
    exact (haccept.effect i s.driverFault).unspecify_fits
  · exact (hengine.operandsOnly hu).unspecify_fits

end Sys2Proof.Machine

/-! ### The waveform of a transfer (43_waveform_generator.md R197 to R199) -/

namespace Sys2Proof.Machine

open Sys2Proof

/-! #### What a channel of a running generator presents (R191) -/

theorem State.chOut_pulse {s : State} {c : Channel} (hrun : s.gen.running = true) (hc : c.dtype = .pulse) :
    s.chOut c = c.lvl := by
  rw [State.chOut, if_pos hrun, hc]

theorem State.chOut_custom {s : State} {c : Channel} (hrun : s.gen.running = true) (hc : c.dtype = .custom) :
    s.chOut c = if c.idx < c.patLen then s.patBit c.idx else false := by
  rw [State.chOut, if_pos hrun, hc]

/-- The data types of the three channels of a configured engine (41_configure.md R126 to R128). -/
theorem State.Configured.dtypes {s : State} (h : s.Configured) :
    s.gen.ss.dtype = .pulse ∧ s.gen.sclk.dtype = .pulse ∧ s.gen.mosi.dtype = .custom := by
  obtain ⟨-, -, -, hss, -⟩ := h.ss
  obtain ⟨-, -, -, hsclk, -⟩ := h.sclk
  obtain ⟨-, -, -, hmosi, -⟩ := h.mosi
  exact ⟨hss, hsclk, hmosi⟩

/-- The three output pins at tick `t` of a run, in the closed forms. -/
theorem State.GeneratorPhase.levels {s : State} {t : Nat} (h : s.GeneratorPhase t) (hc : s.Configured)
    (hon : ChannelsOn s) (hrun : s.gen.running = true) :
    s.pinLevels.getLsbD s.pins.ss.toNat = false ∧
      s.pinLevels.getLsbD s.pins.sclk.toNat = sclkLevel s.mode.cpol s.halfBit t ∧
      s.pinLevels.getLsbD s.pins.mosi.toNat = mosiLevel s.patBit s.gen.mosi.patLen s.halfBit s.mode.phase t := by
  obtain ⟨hss, hsclk, hmosi, -⟩ := hon.levels
  obtain ⟨dss, dsclk, dmosi⟩ := hc.dtypes
  rw [hss, hsclk, hmosi, State.chOut_pulse hrun dss, State.chOut_pulse hrun dsclk, State.chOut_custom hrun dmosi,
    h.sclk, h.mosi]
  exact ⟨h.ss.1, rfl, rfl⟩

/-! #### The waveform over a transfer -/

/-- The generator and the output pins of `u` are those of tick `t`, counted from START, of the transfer of the request
in `s`. -/
def State.WaveformAt (s u : State) (t : Nat) : Prop :=
  u.gen.running = decide (t < runLength s.reqBits s.halfBit) ∧
  u.pinLevels.getLsbD s.pins.ss.toNat = decide (runLength s.reqBits s.halfBit ≤ t) ∧
  u.pinLevels.getLsbD s.pins.sclk.toNat =
    (if t < runLength s.reqBits s.halfBit then s.mode.cpol ^^ decide (t / s.halfBit % 2 = 1) else s.mode.cpol) ∧
  u.pinLevels.getLsbD s.pins.mosi.toNat =
    (if t < runLength s.reqBits s.halfBit then mosiLevel s.patternBit s.reqBits s.halfBit s.mode.phase t else false)

/-- After the run the pins are at their idle levels. -/
theorem State.Inv.waveformAt_of_stopped {s u : State} {t : Nat} (h : u.Inv) (hlc : u.lc = .ready)
    (hstop : u.gen.running = false) (hpins : u.pins = s.pins) (hmode : u.mode = s.mode)
    (ht : runLength s.reqBits s.halfBit ≤ t) : s.WaveformAt u t := by
  obtain ⟨hss, hsclk, hmosi⟩ := h.idle_levels hlc hstop
  rw [hpins] at hss hsclk hmosi
  rw [State.WaveformAt, if_neg ht.not_gt, if_neg ht.not_gt, hss, hsclk, hmosi, hstop, hmode]
  exact ⟨(decide_eq_false ht.not_gt).symm, (decide_eq_true ht).symm, rfl, rfl⟩

/-- A transfer in flight runs with the numbers of its request. -/
theorem State.TransferAt.numbers {s u : State} {t : Nat} (h : s.TransferAt u t) :
    u.halfBit = s.halfBit ∧ u.gen.runLen = runLength s.reqBits s.halfBit ∧ u.gen.mosi.patLen = s.reqBits := by
  obtain ⟨-, -, -, -, -, -, -, htd, -⟩ := h.registers
  have hhalf : u.halfBit = s.halfBit := by rw [State.halfBit, htd, State.halfBit]
  have hl := h.inv.loaded h.running
  rw [hl.run, hl.length, h.latch, hhalf]
  exact ⟨rfl, rfl, rfl⟩

/-- MOSI shows the pattern of the request. -/
theorem State.TransferAt.mosiLevel_eq {s u : State} {t : Nat} (h : s.TransferAt u t) (D phase τ : Nat) :
    mosiLevel u.patBit s.reqBits D phase τ = mosiLevel s.patternBit s.reqBits D phase τ := by
  unfold mosiLevel
  split_ifs with hk
  · exact State.patBit_of_pattern h.pattern hk
  · rfl

/-- While a transfer is in flight the pins follow the closed forms. -/
theorem State.TransferAt.waveformAt {s u : State} {t : Nat} (h : s.TransferAt u t) : s.WaveformAt u t := by
  obtain ⟨hlc, hc, hon⟩ := h.inv.in_flight h.in_flight
  obtain ⟨hhalf, hrunLen, hlength⟩ := h.numbers
  obtain ⟨-, hpins, hmode, -⟩ := h.registers
  cases hrun : u.gen.running with
  | true =>
    have hphase := h.inv.generator h.running hrun
    rw [h.count] at hphase
    obtain ⟨hss, hsclk, hmosi⟩ := hphase.levels hc hon hrun
    have ht : t < runLength s.reqBits s.halfBit := hrunLen ▸ hphase.inRun
    rw [hpins] at hss hsclk hmosi
    rw [State.WaveformAt, if_pos ht, if_pos ht, hss, hsclk, hmosi, hrun, hmode, hhalf, hlength, h.mosiLevel_eq]
    exact ⟨(decide_eq_true ht).symm, (decide_eq_false ht.not_ge).symm, rfl, rfl⟩
  | false =>
    have ht := h.inv.stopped h.running hrun
    rw [h.count, hrunLen] at ht
    exact h.inv.waveformAt_of_stopped hlc hrun hpins hmode ht

/-- The run is over before the poll that reads `DONE`. -/
theorem State.TransferAt.runLength_le_reqPollTick {s u : State} {t : Nat} (h : s.TransferAt u t) :
    runLength s.reqBits s.halfBit ≤ s.reqPollTick := by
  have hD := h.numbers.1 ▸ (h.inv.in_flight h.in_flight).2.1.positive
  have hpoll := (lastPollTick_spec (deadline := lastSampleTick s.reqBits s.mode.phase s.halfBit + 1)
    (h.pollTicks_eq ▸ h.inv.pollTicks_pos)).2
  rw [← s.reqPollTick_eq] at hpoll
  calc runLength s.reqBits s.halfBit ≤ (2 * s.reqBits + 1) * s.halfBit := (runLength_window _ hD).2
    _ ≤ lastSampleTick s.reqBits s.mode.phase s.halfBit := Nat.mul_le_mul_right _ (by omega)
    _ ≤ s.reqPollTick := (Nat.le_succ _).trans hpoll

/-- The tick after the poll that reads `DONE`, and the tick after that one. -/
theorem State.TransferAt.waveformAt_after_poll {s u : State} (h : s.TransferAt u s.reqPollTick)
    (hq : u.quiet = true) : s.WaveformAt u.next (s.reqPollTick + 1) ∧
      (u.next.quiet = true → s.WaveformAt u.next.next (s.reqPollTick + 2)) := by
  have hinv := h.inv.next
  have hdone := (h.next_completes hq).1
  obtain ⟨hstop, -⟩ := hinv.done hdone
  have hlc := hinv.busy (by simp [hdone])
  obtain ⟨hpins, hmode, -⟩ := constructionRegistersFixed u u.next (State.quiet_spec hq).1
    (by simp [h.inv.busy h.in_flight]) (step_next u)
  obtain ⟨-, hpins', hmode', -⟩ := h.registers
  have hover := h.runLength_le_reqPollTick
  refine ⟨hinv.waveformAt_of_stopped hlc hstop (hpins.trans hpins') (hmode.trans hmode') (by omega), fun hq' => ?_⟩
  obtain ⟨rej, hrest⟩ := hinv.next_of_done (State.quiet_spec hq').1 hdone
  have hinv' := hinv.next
  rw [hrest] at hinv' ⊢
  exact hinv'.waveformAt_of_stopped hlc hstop (hpins.trans hpins') (hmode.trans hmode') (by omega)

/-- Every tick from START to the poll that reads `DONE`, in a run that has been quiet so far (`State.Inv.transferAt`
asks for quiet ticks to the end of the transfer). -/
theorem State.Inv.transferAt_of_quiet {s : State} (h : s.Inv) (hst : s.startsTransfer = true) {t : Nat}
    (hq : Throughout State.quiet (t + 2) s = true) (ht : t ≤ s.reqPollTick) : s.TransferAt (s.atTick t) t := by
  rw [throughout_iff] at hq
  induction t with
  | zero => exact h.transferAt_zero hst (hq 0 (by omega)) (hq 1 (by omega))
  | succ t ih =>
    have hnext := (ih (fun i hi => hq i (by omega)) (by omega)).next (hq (t + 2) (by omega)) (by omega)
    rwa [State.atTick, ← State.after_succ] at hnext

/-- Every tick from START to the end of the transfer. -/
theorem State.Inv.waveformAt {s : State} (h : s.Inv) (hst : s.startsTransfer = true) {t : Nat}
    (ht : t ≤ s.reqPollTick + 2) (hq : Throughout State.quiet (t + 2) s = true) : s.WaveformAt (s.atTick t) t := by
  have quiet := (throughout_iff _ _ _).1 hq
  by_cases hle : t ≤ s.reqPollTick
  · exact (h.transferAt_of_quiet hst hq hle).waveformAt
  · have hpoll := h.transferAt_of_quiet hst (t := s.reqPollTick)
      ((throughout_iff _ _ _).2 fun i hi => quiet i (by omega)) le_rfl
    obtain ⟨hdone, hidle⟩ := hpoll.waveformAt_after_poll (quiet (s.reqPollTick + 2) (by omega))
    have hnext : s.atTick (s.reqPollTick + 1) = (s.atTick s.reqPollTick).next := s.after_succ (s.reqPollTick + 2)
    rw [← hnext] at hdone hidle
    obtain rfl | rfl : t = s.reqPollTick + 1 ∨ t = s.reqPollTick + 2 := by omega
    · exact hdone
    · have hnext' : s.atTick (s.reqPollTick + 2) = (s.atTick (s.reqPollTick + 1)).next :=
        s.after_succ (s.reqPollTick + 3)
      rw [hnext']
      exact hidle (quiet (s.reqPollTick + 3) (by omega))

/-- An accepted TRANSFER finds a configured engine at rest (30_encoding.md R85). -/
theorem State.at_rest_of_startsTransfer {s : State} (hst : s.startsTransfer = true) : s.seq = .idle ∧ s.lc = .ready := by
  simp only [State.startsTransfer, Bool.and_eq_true] at hst
  obtain ⟨⟨-, hacc⟩, -⟩ := hst
  obtain ⟨hseq, hlc⟩ := (s.accepts_iff _).1 hacc
  exact ⟨hseq, by simpa [acceptedIn] using hlc⟩

/-- In the command tick and the tick after it the pins are still at their idle levels. -/
theorem State.Inv.idle_before_start {s : State} (h : s.Inv) (hst : s.startsTransfer = true) {k : Nat} (hk : k ≤ 1)
    (hq : Throughout State.quiet k s = true) :
    (s.after k).pinLevels.getLsbD s.pins.ss.toNat = true ∧
      (s.after k).pinLevels.getLsbD s.pins.sclk.toNat = s.mode.cpol ∧
      (s.after k).pinLevels.getLsbD s.pins.mosi.toNat = false := by
  obtain rfl | rfl : k = 0 ∨ k = 1 := by omega
  · obtain ⟨hseq, hlc⟩ := State.at_rest_of_startsTransfer hst
    exact h.idle_levels hlc (h.rest hlc hseq).1
  · have hload := State.next_of_startsTransfer hst ((throughout_iff _ _ _).1 hq 0 one_pos)
    have harmed : s.next.seq = .armed := congrArg State.seq hload
    have hpins : s.next.pins = s.pins := by simp [hload, State.stepUnits]
    have hmode : s.next.mode = s.mode := by simp [hload, State.stepUnits]
    have hlevels := h.next.idle_levels (h.next.busy (by simp [harmed])) (h.next.armed harmed).2.1
    rwa [hpins, hmode] at hlevels

/-- Settles O42: idle until START (`State.Inv.idle_before_start`), then the invariant's closed forms at every tick the
transfer is in flight, by induction on the tick (`State.Inv.waveformAt`). -/
theorem waveformClosedForms : Obligations.WaveformClosedForms := by
  intro s h hst
  exact ⟨fun k hk hq => h.idle_before_start hst hk hq, fun t ht hq => h.waveformAt hst ht hq⟩

end Sys2Proof.Machine

/-! ### The pins of the channels (20_memory.md R52, R53; 43_waveform_generator.md R191) -/

namespace Sys2Proof.Machine

open Sys2Proof

/-- Outside the unspecified condition the block drives no pin but those of its enabled channels (R52). -/
theorem State.undriven_of_no_channel {s : State} (hio : s.ioFree = false) {p : Nat}
    (h : ∀ c, c = s.gen.ss ∨ c = s.gen.sclk ∨ c = s.gen.mosi → ¬ (c.en = true ∧ c.pin.toNat = p)) :
    s.dioOe.getLsbD p = false ∧ s.dioOut.getLsbD p = false := by
  have hoe : ∀ c, c = s.gen.ss ∨ c = s.gen.sclk ∨ c = s.gen.mosi → c.oeMask.getLsbD p = false := fun c hc => by
    have := h c hc
    rw [oeMask_getLsbD, Bool.and_eq_false_iff, decide_eq_false_iff_not, eq_comm (a := p)]
    exact (not_and_or.1 this).imp_left Bool.eq_false_of_not_eq_true
  have hss := hoe _ (.inl rfl)
  have hsclk := hoe _ (.inr (.inl rfl))
  have hmosi := hoe _ (.inr (.inr rfl))
  rw [State.dioOe, State.dioOut, hio]
  simp [-BitVec.getLsbD_eq_getElem, outMask_getLsbD, hss, hsclk, hmosi]

/-- A channel that is enabled outside the unspecified condition belongs to a configured engine: elsewhere the digital
I/O is in its reset state. -/
theorem State.Inv.ready_of_enabled {s : State} (h : s.Inv) (hio : s.ioFree = false) {c : Channel}
    (hc : c = s.gen.ss ∨ c = s.gen.sclk ∨ c = s.gen.mosi) (hen : c.en = true) : s.lc = .ready := by
  have disabled : s.Released → c.en = false := fun ⟨hgen, _⟩ => by
    rw [hgen] at hc
    obtain rfl | rfl | rfl := hc <;> rfl
  cases h.stage with
  | closed lc seq io released | opened lc seq pins io released => simp [disabled released] at hen
  | failed lc seq pins released => simp [disabled (released hio)] at hen
  | desync lc seq pins io => simp [hio] at io
  | ready lc => exact lc

/-- Each channel of a configured engine is on its own pin of the assignment, drives it, and the pin shows its level. -/
theorem ChannelsOn.level_of_channel {s : State} (h : ChannelsOn s) {c : Channel}
    (hc : c = s.gen.ss ∨ c = s.gen.sclk ∨ c = s.gen.mosi) :
    s.dioOe.getLsbD c.pin.toNat = true ∧ s.pinLevels.getLsbD c.pin.toNat = s.chOut c := by
  obtain ⟨⟨hmosi, -, hsclk, hss⟩, -⟩ := (PinAssignment.legal_iff _).1 h.legal
  obtain ⟨lss, lsclk, lmosi, -⟩ := h.levels
  have toNat_pin : ∀ b : BitVec 8, b.toNat < 16 → (b.setWidth 4).toNat = b.toNat := fun b hb => by
    rw [BitVec.toNat_setWidth, Nat.mod_eq_of_lt hb]
  rw [h.dioOe]
  obtain rfl | rfl | rfl := hc
  · rw [h.ss.2, toNat_pin _ hss]
    exact ⟨by simp, lss⟩
  · rw [h.sclk.2, toNat_pin _ hsclk]
    exact ⟨by simp, lsclk⟩
  · rw [h.mosi.2, toNat_pin _ hmosi]
    exact ⟨by simp, lmosi⟩

/-- Settles O38: a channel's level by the cases of R191; a driven pin belongs to a configured engine, whose channels
are on different pins, and any other pin is left to the environment. -/
theorem pinLevels : Obligations.PinLevels := by
  refine ⟨fun s c => ⟨fun hstop => State.chOut_stopped hstop c, State.chOut_pulse, fun hrun hc hidx => ?_,
    fun hrun hc hidx => ?_⟩, fun s h hio => ⟨fun c hc hen => ?_, fun p hp hnone => ?_⟩⟩
  · rw [State.chOut_custom hrun hc, if_pos hidx]
  · rw [State.chOut_custom hrun hc, if_neg hidx.not_gt]
  · obtain ⟨hoe, hlevel⟩ := (h.channelsOn (h.ready_of_enabled hio hc hen)).level_of_channel hc
    exact ⟨hoe, (pinLevels_driven s hoe).symm.trans hlevel, hlevel⟩
  · obtain ⟨hoe, hout⟩ := State.undriven_of_no_channel hio hnone
    exact ⟨hoe, hout, pinLevels_undriven s hoe hp⟩

end Sys2Proof.Machine

/-! ### One tick of a running generator (43_waveform_generator.md R193, R194, R196) -/

namespace Sys2Proof.Machine

open Sys2Proof

/-! #### The channels as CONFIGURE programs them -/

theorem Channel.tick_of_counting {c : Channel} (h : 1 < c.dcnt) : c.tick = { c with dcnt := c.dcnt - 1 } := by
  unfold Channel.tick Channel.pulseStep Channel.customStep
  cases c.dtype <;> simp [h]

/-- A PULSE channel that spends one step at each level changes its level at the end of a step. -/
theorem Channel.tick_pulse_toggles {c : Channel} (hc : c.dtype = .pulse) (hlow : c.lowCnt = 1) (hhigh : c.highCnt = 1)
    (hd : c.dcnt ≤ 1) (hp : c.pcnt = 1) : c.tick = { c with dcnt := c.div, lvl := !c.lvl, pcnt := 1 } := by
  have hsteps : c.stepsAt (!c.lvl) = 1 := by rw [Channel.stepsAt, hlow, hhigh, ite_self]
  simp [Channel.tick, hc, Channel.pulseStep, hsteps, hp, hd.not_gt]

theorem Channel.tick_custom_advances {c : Channel} (hc : c.dtype = .custom) (hd : c.dcnt ≤ 1) :
    c.tick = { c with dcnt := c.div, idx := c.idx + 1 } := by
  simp [Channel.tick, hc, Channel.customStep, hd.not_gt]

/-! #### The tick -/

/-- While the generator runs the deadline is still ahead (42_transfer_sequencer.md R167). -/
theorem State.Inv.tcnt_lt_deadline {s : State} (h : s.Inv) (hs : s.seq = .running) (hrun : s.gen.running = true) :
    s.tcnt < s.latch.deadline := by
  rw [(h.loaded hs).deadline, deadlineOf]
  exact Nat.lt_add_right _ (h.generator hs hrun).inRun

/-- Without a driver failure the tick of a running generator is no more than its own: a timeout cannot come yet, and a
completion leaves it alone. -/
theorem State.Inv.next_gen_of_running {s : State} (h : s.Inv) (hr : s.rst = false) (hs : s.seq = .running)
    (hf : s.driverFault = false) (hrun : s.gen.running = true) : s.next.gen = s.gen.tick := by
  have hq : s.seq ≠ .idle := by simp [hs]
  have hio := h.defined_in_flight hq
  obtain ⟨rej, hstep⟩ := h.step_in_flight hr hq
  rw [State.next_eq hstep]
  rcases s.sequence_cases s.stepUnits with ⟨hs', -⟩ | ⟨hs', -⟩ | ⟨hs', -⟩ | ⟨-, hf', -⟩ | ⟨-, -, -, -, he⟩ |
    ⟨-, -, -, -, hle, -⟩ | ⟨-, -, -, he⟩ | ⟨hs', -⟩
  · cases hs'.symm.trans hs
  · cases hs'.symm.trans hs
  · cases hs'.symm.trans hs
  · cases hf'.symm.trans hf
  · rw [State.engine_eq_sequence_stepUnits, he]
    exact if_neg (by simp [State.stepUnits, hio])
  · exact absurd hle (h.tcnt_lt_deadline hs hrun).not_ge
  · rw [State.engine_eq_sequence_stepUnits, he]
    exact if_neg (by simp [State.stepUnits, hio])
  · cases hs'.symm.trans hs

/-- Settles O41: the tick steps the generator (`State.Inv.next_gen_of_running`), and each of its channels by the rule
of its data type. -/
theorem generatorStep : Obligations.GeneratorStep := by
  intro s h hr hs hf hrun
  obtain ⟨-, hc, -⟩ := h.in_flight (s := s) (by simp [hs])
  obtain ⟨-, -, -, -, -, -, hlow, hhigh, -⟩ := hc.sclk
  obtain ⟨-, dsclk, dmosi⟩ := hc.dtypes
  have hphase := h.generator hs hrun
  refine ⟨s.next, step_next s, ?_⟩
  rw [h.next_gen_of_running hr hs hf hrun, Generator.tick_running _ hrun]
  exact ⟨rfl, rfl, bne_iff_ne, (ss_tick hc.ss hphase.ss).1, Channel.tick_of_counting,
    fun hd => Channel.tick_pulse_toggles dsclk hlow hhigh hd hphase.sclkStep.1, Channel.tick_of_counting,
    Channel.tick_custom_advances dmosi⟩

end Sys2Proof.Machine

/-! ### The arithmetic of the closed forms (43_waveform_generator.md R198, R199) -/

namespace Sys2Proof.Machine

open Sys2Proof

/-- SCLK changes at the ends of the half periods. -/
theorem sclkLevel_changes_iff (cpol : Bool) {D t : Nat} (hD : 1 ≤ D) :
    sclkLevel cpol D (t + 1) ≠ sclkLevel cpol D t ↔ D ∣ t + 1 := by
  rw [sclkLevel_step cpol hD, Nat.dvd_iff_mod_eq_zero]
  split_ifs with h
  · simp [(half_period_inside h).1]
  · simp [(half_period_end hD (not_lt.1 h)).1]

/-- SCLK after `m` half periods and less than one more. -/
theorem sclkLevel_of_half_period (cpol : Bool) {D t m : Nat} (hlo : m * D ≤ t) (hhi : t < (m + 1) * D) :
    sclkLevel cpol D t = (cpol ^^ decide (m % 2 = 1)) := by
  rw [sclkLevel, Nat.div_eq_of_lt_le hlo hhi]
  rfl

/-- A run holds the ticks `m*D` up to `m = 2*N`. -/
theorem mul_lt_runLength_iff (N m : Nat) {D : Nat} (hD : 1 ≤ D) : m * D < runLength N D ↔ m ≤ 2 * N := by
  obtain ⟨hlo, hhi⟩ := runLength_window N hD
  refine ⟨fun h => Nat.lt_succ_iff.1 (Nat.lt_of_mul_lt_mul_right (h.trans_le hhi)), fun h => ?_⟩
  exact (Nat.mul_le_mul_right D h).trans_lt hlo

/-- The window of the pattern bit at a tick ends after the tick. -/
theorem lt_patternIndex_window (phase t : Nat) {D : Nat} (hD : 1 ≤ D) :
    t < (patternIndex D phase t + 1) * (2 * D) + phase * D := by
  unfold patternIndex
  split_ifs with h
  · omega
  · have := Nat.lt_mul_div_succ (t - 2 * D - phase * D) (show 0 < 2 * D by omega)
    have hsplit : (1 + (t - 2 * D - phase * D) / (2 * D) + 1) * (2 * D) =
        2 * D * ((t - 2 * D - phase * D) / (2 * D) + 1) + 2 * D := by ring
    omega

/-- Pattern bit `k` is the one of its window and of no other tick. -/
theorem patternIndex_eq_iff (phase t k : Nat) {D : Nat} (hD : 1 ≤ D) :
    patternIndex D phase t = k ↔ (k = 0 ∨ (2 * k + phase) * D ≤ t) ∧ t < (2 * k + 2 + phase) * D := by
  have hfrom : (2 * k + phase) * D = k * (2 * D) + phase * D := by ring
  have hto : (2 * k + 2 + phase) * D = (k + 1) * (2 * D) + phase * D := by ring
  rw [hfrom, hto]
  refine ⟨?_, fun ⟨hlo, hhi⟩ => patternIndex_eq_of_window hlo hhi⟩
  rintro rfl
  exact ⟨patternIndex_window D phase t, lt_patternIndex_window phase t hD⟩

/-- Settles O43: the half periods of SCLK, the length of the run, and the windows of the pattern bits. -/
theorem edgesAndWindows : Obligations.EdgesAndWindows := by
  intro cpol N D hD
  obtain ⟨hlo, hhi⟩ := runLength_window N hD
  refine ⟨fun t ht => ?_, fun m => mul_lt_runLength_iff N m hD, ?_, fun m => ?_,
    fun phase t k => patternIndex_eq_iff phase t k hD⟩
  · obtain ⟨t, rfl⟩ := Nat.exists_eq_add_of_le' ht
    exact sclkLevel_changes_iff cpol hD
  · have hrest := sclkLevel_of_half_period cpol (Nat.le_sub_one_of_lt hlo) (show runLength N D - 1 < _ by omega)
    simpa using hrest
  · exact sclkLevel_of_half_period cpol le_rfl (Nat.mul_lt_mul_of_pos_right m.lt_succ_self hD)

end Sys2Proof.Machine

/-! ### The digitizer (44_digitizer_sampler.md R221 to R230) -/

namespace Sys2Proof.Machine

open Sys2Proof

/-! #### One tick, by the state of the digitizer -/

/-- Settles O44: the masks CONFIGURE selects (`Digitizer.detects_configured`), in each of the two kinds of mode. -/
theorem triggerDetector : Obligations.TriggerDetector := by
  intro s h hlc
  rw [Digitizer.detects_configured (h.ready hlc).dig (h.pins (by simp [hlc]))]
  split_ifs <;> simp only [Bool.and_eq_true, Bool.not_eq_true']

section Digitizer

variable {g : Digitizer} {pins : PinWord}

theorem Digitizer.triggers_iff : g.triggers pins = true ↔ g.st = .armed ∧ g.trigEn = true ∧ g.detects pins = true := by
  simp [Digitizer.triggers, and_assoc]

/-- The trigger tick takes sample 0 (R225). -/
theorem Digitizer.tick_of_triggers (h : g.triggers pins = true) (smp : Memory 16) :
    g.tick pins = { g with prev := pins, widx := 1, scnt := g.sdiv, st := .running } ∧
      g.store pins smp = smp.write Config.maxSamples 0 pins := by
  simp [Digitizer.tick, Digitizer.store, (Digitizer.triggers_iff.1 h).1, h]

/-- Between two samples the digitizer counts down (R226). -/
theorem Digitizer.tick_of_counting (h : g.st = .running) (hc : 1 < g.scnt) (smp : Memory 16) :
    g.tick pins = { g with prev := pins, scnt := g.scnt - 1 } ∧ g.store pins smp = smp := by
  simp [Digitizer.tick, Digitizer.store, Digitizer.triggers, Digitizer.samples, h, hc]

/-- At the end of the count the digitizer takes the next sample, and is `DONE` with the last one (R226, R227). -/
theorem Digitizer.tick_of_sampling (h : g.st = .running) (hc : g.scnt ≤ 1) (smp : Memory 16) :
    g.tick pins = { g with prev := pins, widx := g.widx + 1, scnt := g.sdiv,
                           st := if g.widx + 1 = g.trigPos then .done else .running } ∧
      g.store pins smp = smp.write Config.maxSamples g.widx pins := by
  simp [Digitizer.tick, Digitizer.store, Digitizer.triggers, Digitizer.samples, h, hc, hc.not_gt]

/-- A digitizer that neither runs nor triggers takes no sample. -/
theorem Digitizer.tick_of_waiting (h : g.st ≠ .running) (ht : g.triggers pins = false) (smp : Memory 16) :
    g.tick pins = { g with prev := pins } ∧ g.store pins smp = smp := by
  refine ⟨?_, by simp [Digitizer.store, Digitizer.samples, h, ht]⟩
  rcases g.tick_cases pins with ⟨ht', -⟩ | ⟨hr, -⟩ | ⟨hr, -⟩ | ⟨-, -, he⟩
  · cases ht'.symm.trans ht
  · exact absurd hr h
  · exact absurd hr h
  · exact he

end Digitizer

/-- In a tick after which the transfer still runs, the digitizer and `SMP` change by the digitizer's own tick alone. -/
theorem State.Inv.next_digitizer_of_running {s : State} (h : s.Inv) (hr : s.rst = false) (hs : s.seq = .running)
    (hnext : s.next.seq = .running) :
    s.next.dig = s.dig.tick s.pinLevels ∧ s.next.smp = s.dig.store s.pinLevels s.smp := by
  have hq : s.seq ≠ .idle := by simp [hs]
  obtain ⟨rej, hstep⟩ := h.step_in_flight hr hq
  have hengine : s.engine.seq = .running := by rwa [State.next_eq hstep] at hnext
  rw [State.next_eq hstep]
  rw [State.engine_eq_sequence_stepUnits] at hengine ⊢
  rcases s.sequence_cases s.stepUnits with ⟨hs', -⟩ | ⟨hs', -⟩ | ⟨hs', -⟩ | ⟨-, -, he⟩ | ⟨-, -, -, -, he⟩ |
    ⟨-, -, -, -, -, he⟩ | ⟨-, -, -, he⟩ | ⟨hs', -⟩
  · cases hs'.symm.trans hs
  · cases hs'.symm.trans hs
  · cases hs'.symm.trans hs
  · cases (congrArg State.seq he).symm.trans hengine
  · cases (congrArg State.seq he).symm.trans hengine
  · cases (congrArg State.seq he).symm.trans hengine
  · rw [he, State.unspecify_defined (s := { s.stepUnits with tcnt := s.tcnt + 1 }) (h.defined_in_flight hq)]
    exact ⟨rfl, rfl⟩
  · cases hs'.symm.trans hs

/-- The sample about to be stored has its place in `SMP` (42_transfer_sequencer.md R151). -/
theorem State.Inv.widx_lt_maxSamples {s : State} (h : s.Inv) (hs : s.seq = .running) (hd : s.dig.st = .running) :
    s.dig.widx < Config.maxSamples := by
  obtain ⟨-, hidx, -⟩ := (h.digitizer hs).storing hd
  exact hidx.trans (h.loaded hs).capacity

/-- Settles O45: the tick is the digitizer's own (`State.Inv.next_digitizer_of_running`), one lemma for each of its
states. -/
theorem digitizerStep : Obligations.DigitizerStep := by
  intro s t h hr hs hstep ht
  obtain rfl := State.next_eq hstep
  obtain ⟨hdig, hsmp⟩ := h.next_digitizer_of_running hr hs ht
  rw [hdig, hsmp]
  refine ⟨s.dig.tick_prev _, fun ha he hdet => ?_, fun ha hdet => ?_, fun hd hc => ?_, fun hd hc => ?_, fun hd => ?_⟩
  · obtain ⟨htick, hstore⟩ := Digitizer.tick_of_triggers (Digitizer.triggers_iff.2 ⟨ha, he, hdet⟩) s.smp
    rw [htick, hstore]
    exact ⟨Memory.read?_write_same _ _ _ (by decide), rfl, rfl, rfl⟩
  · exact (Digitizer.tick_of_waiting (by simp [ha]) (by simp [Digitizer.triggers, hdet]) s.smp).symm
  · exact (Digitizer.tick_of_counting hd hc s.smp).symm
  · obtain ⟨htick, hstore⟩ := Digitizer.tick_of_sampling (pins := s.pinLevels) hd hc s.smp
    rw [htick, hstore]
    exact ⟨Memory.read?_write_same _ _ _ (h.widx_lt_maxSamples hs hd), fun i hi => Memory.read?_write_other _ _ _ hi,
      rfl, rfl, by simp⟩
  · exact (Digitizer.tick_of_waiting (by simp [hd]) (by simp [Digitizer.triggers, hd]) s.smp).symm

/-! #### The sample times (R229, R230) -/

/-- The last sample, of index `2*N + 1`, counted from the trigger tick. -/
theorem State.lastSampleTick_eq (s : State) (N : Nat) :
    lastSampleTick N s.mode.phase s.halfBit = s.triggerTick + (2 * N + 1) * s.halfBit := by
  unfold lastSampleTick State.triggerTick
  ring

/-- The digitizer of a transfer in flight waits up to the trigger tick and no longer. -/
theorem State.DigitizerPhase.armed_iff {s : State} {t : Nat} (h : s.DigitizerPhase t) :
    s.dig.st = .armed ↔ t ≤ s.triggerTick := by
  refine ⟨fun ha => (h.waiting ha).1, fun hle => ?_⟩
  cases hst : s.dig.st with
  | ready => exact absurd hst h.notReady
  | armed => rfl
  | running =>
    obtain ⟨hidx, -, -, hcnt, htime⟩ := h.storing hst
    have := Nat.le_mul_of_pos_left s.halfBit hidx
    omega
  | done =>
    have := (h.complete hst).2
    rw [s.lastSampleTick_eq] at this
    omega

/-- What a tick of a transfer in flight stores: at `T + j*D` sample `j`, and nothing at any other tick. -/
theorem State.Inv.store_cases {s : State} (h : s.Inv) (hs : s.seq = .running) :
    (∃ j, j < s.latch.nSamp ∧ s.tcnt = s.triggerTick + j * s.halfBit ∧
      s.dig.store s.pinLevels s.smp = s.smp.write Config.maxSamples j s.pinLevels) ∨
    ((∀ i, i < s.latch.nSamp → s.tcnt ≠ s.triggerTick + i * s.halfBit) ∧
      s.dig.store s.pinLevels s.smp = s.smp) := by
  have hl := h.loaded hs
  have hphase := h.digitizer hs
  cases hst : s.dig.st with
  | ready => exact absurd hst hphase.notReady
  | armed =>
    obtain ⟨-, hc, hon⟩ := h.in_flight (s := s) (by simp [hs])
    have htrig := (hphase.triggers_iff hc hon hl (h.generator hs) (h.stopped hs) hst).1
    by_cases ht : s.tcnt = s.triggerTick
    · refine .inl ⟨0, ?_, by omega, (Digitizer.tick_of_triggers (htrig.trans (decide_eq_true ht)) _).2⟩
      rw [hl.samples, sampleCount]
      omega
    · have := (hphase.waiting hst).1
      exact .inr ⟨fun i _ => by omega,
        (Digitizer.tick_of_waiting (by simp [hst]) (htrig.trans (decide_eq_false ht)) _).2⟩
  | running =>
    obtain ⟨-, hidx, hpos, hcnt, htime⟩ := hphase.storing hst
    by_cases hc : s.dig.scnt ≤ 1
    · exact .inl ⟨s.dig.widx, hidx, by omega, (Digitizer.tick_of_sampling hst hc _).2⟩
    · refine .inr ⟨fun i _ ht => ?_, (Digitizer.tick_of_counting hst (not_le.1 hc) _).2⟩
      rcases Nat.lt_or_ge i s.dig.widx with hi | hi
      · have := Nat.mul_le_mul_right s.halfBit (Nat.succ_le_of_lt hi)
        rw [Nat.succ_mul] at this
        omega
      · have := Nat.mul_le_mul_right s.halfBit hi
        omega
  | done =>
    have hlast := (hphase.complete hst).2
    rw [s.lastSampleTick_eq] at hlast
    refine .inr ⟨fun i hi ht => ?_,
      (Digitizer.tick_of_waiting (by simp [hst]) (by simp [Digitizer.triggers, hst]) _).2⟩
    rw [hl.samples, sampleCount] at hi
    have := Nat.mul_le_mul_right s.halfBit (show i ≤ 2 * s.latch.nBits + 1 by omega)
    omega

/-- Sample `i` is what the tick `T + i*D` of the transfer stores, and every other tick leaves it. -/
theorem State.Inv.read?_store {s : State} (h : s.Inv) (hs : s.seq = .running) {i : Nat} (hi : i < s.latch.nSamp) :
    (s.dig.store s.pinLevels s.smp).read? i =
      if s.tcnt = s.triggerTick + i * s.halfBit then some s.pinLevels else s.smp.read? i := by
  obtain ⟨-, hc, -⟩ := h.in_flight (s := s) (by simp [hs])
  rcases h.store_cases hs with ⟨j, hj, ht, hstore⟩ | ⟨ht, hstore⟩
  · rw [hstore]
    by_cases hij : i = j
    · rw [hij, if_pos ht, Memory.read?_write_same _ _ _ (hj.trans (h.loaded hs).capacity)]
    · have hne : s.tcnt ≠ s.triggerTick + i * s.halfBit := fun ht' =>
        hij (Nat.eq_of_mul_eq_mul_right hc.positive (Nat.add_left_cancel (ht'.symm.trans ht)))
      rw [if_neg hne, Memory.read?_write_other _ _ _ hij]
  · rw [hstore, if_neg (ht i hi)]

/-- A transfer in flight has the trigger tick of its request. -/
theorem State.TransferAt.triggerTick_eq {s u : State} {t : Nat} (h : s.TransferAt u t) :
    u.triggerTick = s.triggerTick := by
  obtain ⟨-, -, hmode, -⟩ := h.registers
  rw [State.triggerTick, State.triggerTick, hmode, h.numbers.1]

/-- The status of the digitizer at a tick of the transfer. -/
theorem State.TransferAt.dig_st {s u : State} {t : Nat} (h : s.TransferAt u t) : u.dig.st =
    (if t ≤ s.triggerTick then .armed
     else if t ≤ lastSampleTick s.reqBits s.mode.phase s.halfBit then .running else .done) := by
  have hphase := h.inv.digitizer h.running
  rw [h.count] at hphase
  have harmed := hphase.armed_iff
  rw [h.triggerTick_eq] at harmed
  have hdone := h.done_iff
  split_ifs with ht hlast
  · exact harmed.2 ht
  · cases hst : u.dig.st with
    | ready => exact absurd hst hphase.notReady
    | armed => exact absurd (harmed.1 hst) ht
    | running => rfl
    | done => exact absurd (hdone.1 hst) hlast.not_gt
  · exact hdone.2 (not_le.1 hlast)

/-- A tick of the transfer that counts stores the snapshot of its pins as sample `i` exactly if it is the tick
`T + i*D`. -/
theorem State.TransferAt.next_sample {s u : State} {t : Nat} (h : s.TransferAt u t) (hr : u.rst = false)
    (hnext : u.next.seq = .running) {i : Nat} (hi : i < s.reqSamples) :
    u.next.smp.read? i = if t = s.triggerTick + i * s.halfBit then some u.pinLevels else u.smp.read? i := by
  have hsamples : u.latch.nSamp = s.reqSamples := by
    rw [h.latch]
    rfl
  rw [(h.inv.next_digitizer_of_running hr h.running hnext).2, h.inv.read?_store h.running (hsamples ▸ hi), h.count,
    h.triggerTick_eq, h.numbers.1]

/-- Every sample taken before a tick of the transfer stands in `SMP`, by induction on the tick. -/
theorem State.Inv.sample_taken {s : State} (h : s.Inv) (hst : s.startsTransfer = true) {t : Nat}
    (ht : t ≤ s.reqPollTick) (hq : Throughout State.quiet (t + 2) s = true) {i : Nat} (hi : i < s.reqSamples)
    (htaken : s.triggerTick + i * s.halfBit < t) :
    (s.atTick t).smp.read? i = some (s.atTick (s.triggerTick + i * s.halfBit)).pinLevels := by
  induction t with
  | zero => omega
  | succ t ih =>
    have quiet := (throughout_iff _ _ _).1 hq
    have hq' := (throughout_iff State.quiet (t + 2) s).2 fun k hk => quiet k (by omega)
    have hat := h.transferAt_of_quiet hst hq' (by omega)
    have hat' := h.transferAt_of_quiet hst hq ht
    have hnext : s.atTick (t + 1) = (s.atTick t).next := s.after_succ (t + 2)
    rw [hnext] at hat' ⊢
    rw [hat.next_sample (State.quiet_spec (quiet (t + 2) (by omega))).1 hat'.running hi]
    split_ifs with hnow
    · rw [← hnow]
    · exact ih (by omega) hq' (by omega)

/-- Settles O46: the status by the digitizer's phase (`State.TransferAt.dig_st`), the samples by induction on the tick
(`State.Inv.sample_taken`). -/
theorem sampleTimes : Obligations.SampleTimes := by
  intro s h hst t ht hq
  exact ⟨(h.transferAt_of_quiet hst hq ht).dig_st, fun i hi htaken => h.sample_taken hst ht hq hi htaken⟩

end Sys2Proof.Machine

/-! ### The result of a transfer (45_decimator_reconstructor.md R251 to R257) -/

namespace Sys2Proof.Machine

open Sys2Proof

/-! #### The completing poll -/

/-- The completing poll decodes, stores and offers, `STATUS.REJ` apart; nothing of the result is unspecified (R255). -/
theorem State.Inv.next_of_completing_poll {s : State} (h : s.Inv) (hr : s.rst = false) (hs : s.seq = .running)
    (hf : s.driverFault = false) (hp : s.isPoll = true) (hd : s.readsDone = true) :
    ∃ rej, s.next =
      { State.complete s.decodedBytes { s.stepUnits with tcnt := s.tcnt + 1 } with rej := rej } := by
  have hq : s.seq ≠ .idle := by simp [hs]
  obtain ⟨rej, hstep⟩ := h.step_in_flight hr hq
  rw [State.engine_complete hs hf hp hd, State.unspecify_nothing
    (s := State.complete s.decodedBytes { s.stepUnits with tcnt := s.tcnt + 1 }) (h.defined_in_flight hq) rfl] at hstep
  exact ⟨rej, State.next_eq hstep⟩

/-- Each bit of a stored byte is its decoded bit, in the order latched for the answer (R253, R254). -/
theorem State.rxByte_getLsbD_of_decoded {s t : State} (h : t.rxbuf = Memory.ofList 0 s.decodedBytes) {j i : Nat}
    (hj : j < s.latch.n) (hi : i < 8) :
    (t.rxByte j).getLsbD (if s.latch.lsbRx then i else 7 - i) = s.decodedBit (8 * j + i) := by
  have hbyte : t.rxByte j = packByte s.latch.lsbRx s.decodedBit j := by
    simp [State.rxByte, h, State.decodedBytes, hj]
  rw [hbyte, packByte_getLsbD _ _ _ hi]

/-- Settles O31: the completing poll (`State.Inv.next_of_completing_poll`), with units that are at rest. -/
theorem pollCompletes : Obligations.PollCompletes := by
  intro s h hr hs hf h0 hmod hdone hw
  have hq : s.seq ≠ .idle := by simp [hs]
  obtain ⟨hlc, hc, -⟩ := h.in_flight hq
  have hl := h.loaded hs
  have hstop := (h.digitizer hs).generator_stopped hc hl (h.generator hs) hdone
  obtain ⟨rej, hnext⟩ := h.next_of_completing_poll hr hs hf (s.isPoll_iff.2 ⟨h0, hmod⟩)
    (s.readsDone_iff.2 ⟨hdone, hw⟩)
  have hlen : (BitVec.ofNat 7 s.decodedBytes.length).toNat = s.latch.n := by
    rw [s.decodedBytes_length, BitVec.toNat_ofNat]
    exact Nat.mod_eq_of_lt (hl.bytes.2.trans_lt (by decide))
  refine ⟨s.next, step_next s, ?_⟩
  rw [hnext]
  exact ⟨rfl, rfl, rfl, hlc, hlen, (State.stepUnits_stopped hstop hdone).2, s.gen.tick_stopped hstop, rfl,
    ⟨rfl, rfl, rfl, rfl, rfl, rfl, rfl, rfl, rfl⟩, fun j i hj hi => State.rxByte_getLsbD_of_decoded rfl hj hi⟩

/-! #### The answer of a fault-free transfer -/

/-- Tick `tp` of the transfer is a poll that reads `DONE` (42_transfer_sequencer.md R171). -/
theorem State.TransferAt.poll_reads_done {s u : State} (h : s.TransferAt u s.reqPollTick)
    (hw : u.withheld = false) : u.isPoll = true ∧ u.readsDone = true := by
  obtain ⟨hmod, hle⟩ := lastPollTick_spec (deadline := lastSampleTick s.reqBits s.mode.phase s.halfBit + 1)
    (h.pollTicks_eq ▸ h.inv.pollTicks_pos)
  rw [← s.reqPollTick_eq] at hmod hle
  rw [u.isPoll_iff, u.readsDone_iff, h.count, h.pollTicks_eq, h.done_iff]
  exact ⟨⟨by omega, hmod⟩, hle, hw⟩

/-- The tick of the even sample `2*k`, from which bit `k` is decoded: `(2*k + 1 + CPHA)*D` (R252). -/
def State.bitTick (s : State) (k : Nat) : Nat := (2 * k + 1 + s.mode.phase) * s.halfBit

theorem State.bitTick_eq (s : State) (k : Nat) : s.bitTick k = s.triggerTick + 2 * k * s.halfBit := by
  unfold State.bitTick State.triggerTick
  ring

/-- Every bit of the request is sampled before the poll that reads `DONE`. -/
theorem State.TransferAt.bitTick_lt_reqPollTick {s u : State} {t : Nat} (h : s.TransferAt u t) {k : Nat}
    (hk : k < s.reqBits) : s.bitTick k < s.reqPollTick := by
  have hpoll := (lastPollTick_spec (deadline := lastSampleTick s.reqBits s.mode.phase s.halfBit + 1)
    (h.pollTicks_eq ▸ h.inv.pollTicks_pos)).2
  rw [← s.reqPollTick_eq] at hpoll
  calc s.bitTick k ≤ lastSampleTick s.reqBits s.mode.phase s.halfBit := Nat.mul_le_mul_right _ (by omega)
    _ < s.reqPollTick := hpoll

/-- On the MISO pin the snapshot of a transfer's tick shows what the environment presents. -/
theorem State.TransferAt.miso_level {s u : State} {t : Nat} (h : s.TransferAt u t) :
    u.pinLevels.getLsbD s.pins.miso.toNat = u.ext.getLsbD s.pins.miso.toNat := by
  obtain ⟨-, hpins, -⟩ := h.registers
  obtain ⟨-, hlevel, -⟩ := misoNeverDriven u h.inv (by simp [h.inv.busy h.in_flight])
  rwa [hpins] at hlevel

/-- In the window of pattern bit `k` (43_waveform_generator.md R199), as long as the run lasts, MOSI shows it. -/
theorem State.TransferAt.mosi_level {s u : State} {t : Nat} (h : s.TransferAt u t) {k : Nat} (hk : k < s.reqBits)
    (hrun : t < runLength s.reqBits s.halfBit) (hlo : k = 0 ∨ (2 * k + s.mode.phase) * s.halfBit ≤ t)
    (hhi : t < (2 * k + 2 + s.mode.phase) * s.halfBit) :
    u.pinLevels.getLsbD s.pins.mosi.toNat = s.patternBit k := by
  have hD : 1 ≤ s.halfBit := h.numbers.1 ▸ (h.inv.in_flight h.in_flight).2.1.positive
  obtain ⟨-, -, -, hmosi⟩ := h.waveformAt
  rw [hmosi, if_pos hrun, mosiLevel, (patternIndex_eq_iff _ _ _ hD).2 ⟨hlo, hhi⟩, if_pos hk]

/-- Bit `k` is sampled in the middle of the window of pattern bit `k`, within the run. -/
theorem State.TransferAt.mosi_level_at_bitTick {s u : State} {k : Nat} (h : s.TransferAt u (s.bitTick k))
    (hk : k < s.reqBits) : u.pinLevels.getLsbD s.pins.mosi.toNat = s.patternBit k := by
  have hD : 1 ≤ s.halfBit := h.numbers.1 ▸ (h.inv.in_flight h.in_flight).2.1.positive
  have hphase : s.mode.phase ≤ 1 := Bool.toNat_le _
  refine h.mosi_level hk ((mul_lt_runLength_iff _ _ hD).2 (by omega)) (.inr ?_) ?_
  · exact Nat.mul_le_mul_right _ (by omega)
  · exact Nat.mul_lt_mul_of_pos_right (by omega) hD

section Run

variable {s : State} (h : s.Inv) (hst : s.startsTransfer = true)
  (hq : Throughout State.quiet (s.reqPollTick + 4) s = true)

include h hst hq

/-- When the transfer is over `RXBUF` holds the bytes that the poll decodes. -/
theorem State.Inv.transfer_rxbuf :
    (s.after (4 + s.reqPollTick)).rxbuf = Memory.ofList 0 (s.atTick s.reqPollTick).decodedBytes := by
  have hpoll := h.transferAt hst hq le_rfl
  obtain ⟨hr, hf, hw⟩ := State.quiet_spec ((throughout_iff _ _ _).1 hq (s.reqPollTick + 2) (by omega))
  obtain ⟨hp, hd⟩ := hpoll.poll_reads_done hw
  obtain ⟨rej, hnext⟩ := hpoll.inv.next_of_completing_poll hr hpoll.running hf hp hd
  obtain ⟨rej', hover⟩ := h.transfer_over hst hq
  rw [hover, show s.atTick (s.reqPollTick + 1) = (s.atTick s.reqPollTick).next from s.after_succ (s.reqPollTick + 2),
    hnext]
  rfl

/-- The bit that the poll decodes is the MISO level of its own tick (R251, R252). -/
theorem State.Inv.decodedBit_eq {k : Nat} (hk : k < s.reqBits) :
    (s.atTick s.reqPollTick).decodedBit k = (s.atTick (s.bitTick k)).ext.getLsbD s.pins.miso.toNat := by
  have hpoll := h.transferAt hst hq le_rfl
  have hlt := hpoll.bitTick_lt_reqPollTick hk
  have hquiet := (throughout_iff State.quiet (s.reqPollTick + 2) s).2
    fun i hi => (throughout_iff _ _ _).1 hq i (by omega)
  obtain ⟨-, hpins, -⟩ := hpoll.registers
  have htaken := h.sample_taken hst le_rfl hquiet (show 2 * k < s.reqSamples by
    rw [State.reqSamples, sampleCount]
    omega) (s.bitTick_eq k ▸ hlt)
  rw [← s.bitTick_eq] at htaken
  rw [State.decodedBit, State.sample, htaken, hpins]
  exact (h.transferAt hst hq hlt.le).miso_level

/-- Every bit of the answer is the MISO level of its own tick. -/
theorem State.Inv.answer_bit {j i : Nat} (hj : j < s.reqBytes) (hi : i < 8) :
    ((s.after (4 + s.reqPollTick)).rxByte j).getLsbD (if s.xfer.lsbRx then i else 7 - i) =
      (s.atTick (s.bitTick (8 * j + i))).ext.getLsbD s.pins.miso.toNat := by
  have hlatch := (h.transferAt hst hq le_rfl).latch
  have hbits : s.reqBits = 8 * s.reqBytes + s.reqErrClk := rfl
  have hbit := State.rxByte_getLsbD_of_decoded (h.transfer_rxbuf hst hq) (j := j) (by rwa [hlatch]) hi
  rw [hlatch, h.decodedBit_eq hst hq (by omega)] at hbit
  exact hbit

/-- Under loopback every bit of the answer is the bit sent in its place (R256). -/
theorem State.Inv.answer_bit_of_loopback (hloop : Throughout State.loopback (s.reqPollTick + 4) s = true)
    {j i : Nat} (hj : j < s.reqBytes) (hi : i < 8) :
    ((s.after (4 + s.reqPollTick)).rxByte j).getLsbD (if s.xfer.lsbRx then i else 7 - i) =
      (s.txByte j).getLsbD (if s.xfer.lsbTx then i else 7 - i) := by
  have hk : 8 * j + i < s.reqBits := by
    have hbits : s.reqBits = 8 * s.reqBytes + s.reqErrClk := rfl
    omega
  have hlt := (h.transferAt hst hq le_rfl).bitTick_lt_reqPollTick hk
  have hat := h.transferAt hst hq hlt.le
  obtain ⟨-, hpins, -⟩ := hat.registers
  have hecho := (throughout_iff _ _ _).1 hloop (s.bitTick (8 * j + i) + 2) (by omega)
  rw [← State.atTick, State.loopback, beq_iff_eq, hpins] at hecho
  rw [h.answer_bit hst hq hj hi, hecho, hat.mosi_level_at_bitTick hk, s.patternBit_payload hj hi]

end Run

/-- Settles O47: the completing poll decodes the even samples, and sample `2*k` was taken at the tick of bit `k`
(`State.Inv.answer_bit`). -/
theorem decodedBits : Obligations.DecodedBits := fun _ h hst hq _ _ hj hi => h.answer_bit hst hq hj hi

/-- Two bytes that agree bit by bit in their own bit orders agree at the same positions if the orders are the same, and
at mirrored ones if not. -/
theorem getLsbD_eq_of_bit_orders {x y : Byte} {rx tx : Bool}
    (h : ∀ i, i < 8 → x.getLsbD (if rx then i else 7 - i) = y.getLsbD (if tx then i else 7 - i)) {i : Nat}
    (hi : i < 8) : x.getLsbD i = y.getLsbD (if tx = rx then i else 7 - i) := by
  cases rx with
  | true => exact h i hi
  | false =>
    have hmirror : 7 - (7 - i) = i := by omega
    have hbit := h (7 - i) (by omega)
    cases tx <;> simpa only [hmirror, if_true, Bool.false_eq_true, Bool.true_eq_false, if_false] using hbit

/-- Settles O48: every bit of the answer is the bit sent in its place (`State.Inv.answer_bit_of_loopback`), which is at
the same position when the bit orders agree and at the mirrored one when they differ. -/
theorem loopbackRoundTrip : Obligations.LoopbackRoundTrip := by
  intro s h hst hq hloop j hj
  have hbit := fun i => getLsbD_eq_of_bit_orders (i := i) fun i hi => h.answer_bit_of_loopback hst hq hloop hj hi
  refine ⟨fun hsame => BitVec.eq_of_getLsbD_eq fun i hi => ?_, fun hdiffer i hi => ?_⟩
  · rw [hbit i hi, if_pos hsame]
  · rw [hbit i hi, if_neg hdiffer]

end Sys2Proof.Machine

/-! ### Errors and the unspecified condition (60_exceptions.md) -/

namespace Sys2Proof.Machine

open Sys2Proof

/-! #### `STATUS.REJ` (R274) -/

/-- The block accepts a write of `d` to `a` in this state: of a command in one of its states, or to a data register that
may be written (20_memory.md R59, 30_encoding.md R85). -/
def State.AcceptsWrite (s : State) (a : Addr) (d : Word) : Prop :=
  (a = cmdAddr ∧ ∃ i, decode d = .ok i ∧ s.accepts i = true) ∨ s.writeTarget a ≠ none

/-- Accepted writes by address (20_memory.md R58). -/
theorem State.acceptsWrite_iff (s : State) (a : Addr) (d : Word) : s.AcceptsWrite a d ↔
    (a = 0x000 ∧ ∃ i, decode d = .ok i ∧ s.accepts i = true) ∨
    ((a = 0x00C ∨ a = 0x010 ∨ a = 0x014) ∧ s.lc = .closed) ∨
    ((a = 0x01C ∨ (0x100 ≤ a.toNat ∧ a.toNat < 0x200 ∧ a.toNat % 4 = 0)) ∧ s.seq = .idle) := by
  have haddr : ∀ c : Addr, a = c ↔ a.toNat = c.toNat := fun c => BitVec.toNat_inj.symm
  rw [State.AcceptsWrite, Ne, writeTarget_none_iff, not_not, haddr 0x00C, haddr 0x010, haddr 0x014, haddr 0x01C]
  rfl

theorem State.dataWrite_refused {s : State} {a : Addr} (h : s.writeTarget a = none) (d : Word) (t : State) :
    s.dataWrite a d t = t.refuse := by
  rw [State.dataWrite, h]

theorem State.dataWrite_accepted {s : State} {a : Addr} {r : RegName} (h : s.writeTarget a = some r) (d : Word)
    (t : State) : s.dataWrite a d t = (t.setReg r d).accept := by
  rw [State.dataWrite, h]

/-- `CMD` is no data register. -/
theorem State.writeTarget_cmd (s : State) : s.writeTarget cmdAddr = none := rfl

/-- A write that is not accepted, to `CMD` or elsewhere, is a refusal (R274). -/
theorem step_refused_write {s : State} {a : Addr} {d : Word} (hr : s.rst = false) (hb : s.busOp = .wr a d)
    (h : ¬ s.AcceptsWrite a d) : step s = .next (s.tick State.refuse) := by
  obtain ⟨hcmd, htarget⟩ := not_or.1 h
  by_cases ha : a = cmdAddr
  · subst ha
    cases hd : decode d with
    | error e => exact step_illegal hr hb hd
    | ok i =>
      rw [step_command hr hb hd, State.tick_refuse]
      exact exec_refused fun hacc => hcmd ⟨rfl, i, hd, hacc⟩
  · rw [step_data hr hb ha, State.tick, State.dataWrite_refused (not_not.1 htarget), State.tick]

/-- A write that is accepted clears `STATUS.REJ` (R274). -/
theorem step_accepted_rej {s : State} {a : Addr} {d : Word} (hr : s.rst = false) (hb : s.busOp = .wr a d)
    (h : s.AcceptsWrite a d) : ∃ t, step s = .next t ∧ t.rej = false := by
  rcases h with ⟨rfl, i, hd, hacc⟩ | htarget
  · rw [step_command hr hb hd, exec_accepted hacc]
    exact ⟨_, rfl, State.effect_rej _ i _⟩
  · obtain ⟨r, hsome⟩ := Option.ne_none_iff_exists'.1 htarget
    have ha : a ≠ cmdAddr := by
      rintro rfl
      exact htarget s.writeTarget_cmd
    rw [step_data hr hb ha, State.tick, State.dataWrite_accepted hsome]
    exact ⟨_, rfl, rfl⟩

/-- Settles O9: a write is refused (`step_refused_write`) or accepted (`step_accepted_rej`), and the engine by itself
leaves `STATUS.REJ` alone. -/
theorem rejFollowsEveryWrite : Obligations.RejFollowsEveryWrite := by
  refine fun s hr => ⟨fun a d hb => ?_, fun hb => ⟨_, step_of_no_write hr hb, s.engine_rej⟩⟩
  rw [← s.acceptsWrite_iff]
  exact ⟨fun h => ⟨_, step_silent_of_write hr hb, step_refused_write hr hb h⟩, step_accepted_rej hr hb⟩

/-! #### A step beside an accepted command -/

/-- A request for a data write is a write. -/
theorem busOp_of_data_request {s : State} {a : Addr} {d : Word} (h : s.busOp.request = .data a d) :
    s.busOp = .wr a d := by
  cases hb : s.busOp with
  | nop | rd a' => simp [hb, BusOp.request] at h
  | wr a' d' =>
    simp only [hb, BusOp.request] at h
    split_ifs at h with ha
    · split at h <;> cases h
    · cases h
      rfl

/-- Where `XFER` and the entries of `TXBUF` stand (20_memory.md R58). -/
theorem addr_of_regAt {a : Addr} {r : RegName} (h : regAt a = some r) :
    (r = .xfer → a = 0x01C) ∧ (∀ j, r = .txbuf j → 0x100 ≤ a.toNat ∧ a.toNat < 0x200) := by
  have h4 : a.toNat % 4 = 0 := by
    by_contra h4
    rw [regAt_misaligned h4] at h
    cases h
  obtain ⟨k, hk⟩ : ∃ k, a.toNat = 4 * k := ⟨a.toNat / 4, by omega⟩
  rw [regAt_aligned h4, show a.toNat / 4 = k by omega] at h
  rcases regAtWord_cases k with ⟨hlt, r', h1, h2⟩ | ⟨hlo, hhi, h1⟩ | ⟨-, -, h1⟩ | ⟨-, h1⟩ <;> cases h.symm.trans h1
  · have hword : r = .xfer → k = 7 := by
      rintro rfl
      interval_cases k <;> cases h2
      rfl
    refine ⟨fun hx => BitVec.eq_of_toNat_eq (by rw [hk, hword hx]; rfl), ?_⟩
    rintro j rfl
    interval_cases k <;> cases h2
  · exact ⟨nofun, fun _ _ => by omega⟩
  · exact ⟨nofun, nofun⟩

theorem State.regAt_of_writeTarget {s : State} {a : Addr} {r : RegName} (h : s.writeTarget a = some r) :
    regAt a = some r := by
  unfold State.writeTarget at h
  split at h
  · split_ifs at h
    rwa [← Option.some.inj h]
  · cases h

/-- `u` has the operand registers and `TXBUF` of `s`, but for what the host's write of the tick may store: in `PINS`,
`MODE` and `SPEED` only in `CLOSED`, in `XFER` and `TXBUF` only at their addresses (20_memory.md R58). -/
structure State.StoresAtAddress (s u : State) : Prop where
  construction : s.lc ≠ .closed → s.SameConstruction u
  xfer : (∀ d, s.busOp ≠ .wr 0x01C d) → u.xfer = s.xfer
  txbuf : (∀ a d, s.busOp = .wr a d → a.toNat < 0x100 ∨ 0x200 ≤ a.toNat) → u.txbuf = s.txbuf

/-- The engine by itself stores in no operand register. -/
theorem State.storesAtAddress_engine (s : State) : s.StoresAtAddress s.engine :=
  ⟨fun _ => ⟨s.engine_pins, s.engine_mode, s.engine_speed⟩, fun _ => s.engine_xfer, fun _ => s.engine_txbuf⟩

theorem State.storesAtAddress_refuse (s : State) : s.StoresAtAddress s.engine.refuse :=
  ⟨s.storesAtAddress_engine.construction, s.storesAtAddress_engine.xfer, s.storesAtAddress_engine.txbuf⟩

theorem State.storesAtAddress_dataWrite {s : State} {a : Addr} {d : Word} (hb : s.busOp = .wr a d) :
    s.StoresAtAddress (s.dataWrite a d s.engine) := by
  cases ht : s.writeTarget a with
  | none =>
    rw [State.dataWrite_refused ht]
    exact s.storesAtAddress_refuse
  | some r =>
    obtain ⟨hxfer, htxbuf⟩ := addr_of_regAt (State.regAt_of_writeTarget ht)
    refine ⟨fun hlc => ?_, fun hx => ?_, fun htx => ?_⟩
    · obtain ⟨hp, hm, hv⟩ := State.dataWrite_sameConstruction hlc a d s.engine
      exact ⟨hp.trans s.engine_pins, hm.trans s.engine_mode, hv.trans s.engine_speed⟩
    · rw [State.dataWrite_accepted ht]
      cases r with
      | xfer => exact absurd (hxfer rfl ▸ hb) (hx d)
      | _ => exact s.engine_xfer
    · rw [State.dataWrite_accepted ht]
      cases r with
      | txbuf j =>
        have := htxbuf j rfl
        have := htx a d hb
        omega
      | _ => exact s.engine_txbuf

/-- Without reset a step is the tick of an accepted command, or the engine's own with what the host's write may
store. -/
theorem step_without_reset {s t : State} (hr : s.rst = false) (h : step s = .next t) :
    (∃ i, s.busOp = .wr 0x000 (encode i) ∧ s.accepts i = true) ∨
    (∃ u, s.engine.OperandsOnly u ∧ s.StoresAtAddress u ∧ t = u.unspecify) := by
  rcases step_cases h with ⟨hr', -⟩ | ⟨-, -, rfl⟩ | ⟨-, i, hq, he⟩ | ⟨-, -, rfl⟩ | ⟨-, a, d, hq, rfl⟩
  · cases hr.symm.trans hr'
  · exact .inr ⟨_, .refl _, s.storesAtAddress_engine, rfl⟩
  · by_cases hacc : s.accepts i = true
    · exact .inl ⟨i, busOp_of_request hq, hacc⟩
    · cases he.symm.trans (exec_refused hacc)
      exact .inr ⟨_, s.engine.operandsOnly_refuse, s.storesAtAddress_refuse, rfl⟩
  · exact .inr ⟨_, s.engine.operandsOnly_refuse, s.storesAtAddress_refuse, rfl⟩
  · exact .inr ⟨_, s.operandsOnly_dataWrite a d _, State.storesAtAddress_dataWrite (busOp_of_data_request hq), rfl⟩

/-! #### `ERR` (R275, R280) -/

/-- What the engine does to `ERR`: nothing, or an error of the transfer in flight. A transfer that completes finds no
error to clear. -/
theorem State.Inv.engine_err {s : State} (h : s.Inv) : s.engine.err = s.err ∨
    (s.seq = .armed ∧ s.engine.err = .driver) ∨
    (s.seq = .running ∧ (s.engine.err = .driver ∨ s.engine.err = .timeout)) := by
  rw [State.engine_eq_sequence_stepUnits]
  rcases s.sequence_cases s.stepUnits with ⟨-, he⟩ | ⟨hs, -, he⟩ | ⟨-, -, he⟩ | ⟨hs, -, he⟩ | ⟨hs, -, -, -, he⟩ |
    ⟨hs, -, -, -, -, he⟩ | ⟨-, -, -, he⟩ | ⟨-, he⟩ <;> rw [he]
  · exact .inl rfl
  · exact .inr (.inl ⟨hs, rfl⟩)
  · exact .inl rfl
  · exact .inr (.inr ⟨hs, .inl rfl⟩)
  · exact .inl (h.loaded hs).noError.symm
  · exact .inr (.inr ⟨hs, .inr rfl⟩)
  · exact .inl rfl
  · exact .inl rfl

/-- Settles O51: beside reset and an accepted command only the engine changes `ERR` (`State.Inv.engine_err`). -/
theorem errRule : Obligations.ErrRule := by
  intro s t h hstep hne
  cases hr : s.rst with
  | true => exact .inl rfl
  | false =>
    rcases step_without_reset hr hstep with hcmd | ⟨u, hu, -, rfl⟩
    · exact .inr (.inl hcmd)
    · rw [State.unspecify_err, hu.lc_err.2] at hne ⊢
      exact .inr (.inr (h.engine_err.resolve_left hne))

/-! #### `fault_in` at rest (R276, 42_transfer_sequencer.md R170) -/

/-- With no transfer in flight, and in the tick after completion, the sequencer reads no input. -/
theorem State.withEnv_engine_at_rest {s : State} {e e' : EnvTick} {rest : List EnvTick} (henv : s.env = e :: rest)
    (hext : e'.ext = e.ext) (hs : s.seq = .idle ∨ s.seq = .done) : (s.withEnv (e' :: rest)).engine = s.engine := by
  have hunits : (s.withEnv (e' :: rest)).stepUnits = s.stepUnits := by
    rw [State.stepUnits, State.withEnv_pinLevels henv fun _ _ => by rw [hext], State.stepUnits, henv]
    rfl
  have hseq : ∀ t, (s.withEnv (e' :: rest)).sequence t = s.sequence t := fun t => by
    have hsame : (s.withEnv (e' :: rest)).seq = s.seq := rfl
    rw [State.sequence, State.sequence, hsame]
    rcases hs with hs | hs <;> rw [hs]
  rw [State.engine_eq_sequence_stepUnits, hunits, hseq, State.engine_eq_sequence_stepUnits]

/-- Settles O52: the engine at rest reads no `fault_in` (`State.withEnv_engine_at_rest`), and of what the host adds only
a command does. -/
theorem faultIgnoredAtRest : Obligations.FaultIgnoredAtRest := by
  intro s e e' rest henv hrst hext hs hb
  change step (s.withEnv (e' :: rest)) = step s
  have hreset : (s.withEnv (e' :: rest)).resetTick = s.resetTick := by
    rw [State.resetTick, State.resetTick, henv]
    rfl
  have htick : ∀ op, (s.withEnv (e' :: rest)).tick op = s.tick op := fun op => by
    rw [State.tick, State.withEnv_engine_at_rest henv hext hs, State.tick]
  have hbus : (s.withEnv (e' :: rest)).busOp = s.busOp := rfl
  have hwrite : ∀ a d, (s.withEnv (e' :: rest)).dataWrite a d = s.dataWrite a d := fun _ _ => rfl
  rw [step, step, State.withEnv_rst henv hrst, hreset, hbus]
  cases hq : s.busOp.request with
  | quiet | illegal | data a d => simp only [htick, hwrite]
  | command i => exact absurd (busOp_of_request hq) (hb _)

/-! #### The unspecified condition (R278, R279) -/

/-- `t` has of `s` what a tick with no transfer in flight and no accepted command keeps. -/
structure State.KeepsStatus (s t : State) : Prop where
  lc : t.lc = s.lc
  seq : t.seq = s.seq
  err : t.err = s.err
  rxValid : t.rxValid = s.rxValid
  ioFree : t.ioFree = s.ioFree
  timing : t.tSysclk = s.tSysclk ∧ t.tDiv = s.tDiv ∧ t.tBitdiv = s.tBitdiv
  result : s.rxFree = false → t.rxFree = false ∧ t.rxLen = s.rxLen ∧ t.rxbuf = s.rxbuf

theorem State.OperandsOnly.keepsStatus {s u : State} (hu : s.engine.OperandsOnly u) (hs : s.seq = .idle) :
    s.KeepsStatus u.unspecify := by
  rw [s.engine_idle hs] at hu
  rw [hu]
  refine ⟨rfl, rfl, rfl, rfl, rfl, ⟨rfl, rfl, rfl⟩, fun hrx => ?_⟩
  simp [hrx]

theorem State.Inv.at_rest_of_unspecified {s : State} (h : s.Inv) (hio : s.ioFree = true) :
    s.seq = .idle ∧ (s.lc = .desync ∨ s.lc = .failed) := by
  have hlc := h.freeOnly hio
  refine ⟨h.seq_idle ?_, hlc⟩
  rcases hlc with hlc | hlc <;> simp [hlc]

/-- Settles O53: without an accepted command the tick keeps the status, the timing registers and the result
(`State.OperandsOnly.keepsStatus`), the host's write stores only at its address (`State.StoresAtAddress`), and the state
after it meets the invariant, by which no other pin is driven. -/
theorem desyncKeepsDefined : Obligations.DesyncKeepsDefined := by
  intro s t h hlc hr hstep hno
  have hio : s.ioFree = true := hlc.elim (fun hd => (h.desync hd).1) And.right
  obtain ⟨hs, hlc'⟩ := h.at_rest_of_unspecified hio
  have hopen : s.lc ≠ .closed := by rcases hlc' with hlc' | hlc' <;> simp [hlc']
  have ht : t.Inv := invStep s t h hstep
  rcases step_without_reset hr hstep with ⟨i, hb, hacc⟩ | ⟨u, hu, hstore, rfl⟩
  · exact absurd hb (hno i hacc)
  · have hk := hu.keepsStatus hs
    obtain ⟨hsys, hdiv, hbit⟩ := hk.timing
    obtain ⟨hpins, hmode, hspeed⟩ := hstore.construction hopen
    have hoe : ∀ p, p ≠ s.pins.mosi.toNat → p ≠ s.pins.sclk.toNat → p ≠ s.pins.ss.toNat →
        u.unspecify.dioOe.getLsbD p = false := fun p => by
      rw [← hpins]
      exact ht.dioOe_outside_outputs
    exact ⟨hk.lc, hk.seq.trans hs, hk.err, hk.rxValid, hk.ioFree.trans hio,
      fun hd => hk.rxValid.trans (h.desync hd).2, hk.result, hpins, hmode, hspeed, hsys, hdiv, hbit, hstore.xfer,
      hstore.txbuf, hoe⟩

/-- In the unspecified condition only CLOSE and, in `DESYNC`, CONFIGURE are accepted (30_encoding.md R85). -/
theorem State.Inv.accepted_in_unspecified {s : State} (h : s.Inv) (hio : s.ioFree = true) {i : Instr}
    (hacc : s.accepts i = true) : i = .close ∨ (i = .configure ∧ s.lc = .desync) := by
  obtain ⟨-, hlc⟩ := h.at_rest_of_unspecified hio
  have hrow := (acceptedIn_iff i s.lc).1 ((s.accepts_iff i).1 hacc).2
  rcases hlc with hlc | hlc <;> rw [hlc] at hrow ⊢ <;> simpa [or_comm] using hrow

/-- Settles O54: the condition lasts through every tick without reset and accepted command
(`State.OperandsOnly.keepsStatus`), and the reset values, CLOSE and the reset of the digital I/O in CONFIGURE end it. -/
theorem unspecifiedConditionEnds : Obligations.UnspecifiedConditionEnds := by
  intro s t h hio hstep
  obtain ⟨hs, hlc⟩ := h.at_rest_of_unspecified hio
  cases hr : s.rst with
  | true =>
    cases hstep.symm.trans (step_reset hr)
    exact ⟨fun _ => .inl rfl, fun _ => rfl⟩
  | false =>
    refine ⟨fun hend => ?_, ?_⟩
    · rcases step_without_reset hr hstep with ⟨i, hb, hacc⟩ | ⟨u, hu, -, rfl⟩
      · rcases h.accepted_in_unspecified hio hacc with rfl | ⟨rfl, hd⟩
        · exact .inr (.inl hb)
        · exact .inr (.inr ⟨hb, hd⟩)
      · cases hio.symm.trans ((hu.keepsStatus hs).ioFree.symm.trans hend)
    · rintro (hr' | hb | ⟨hb, hd, hf⟩)
      · cases hr'
      · have hopen : s.lc ≠ .closed := by rcases hlc with hlc | hlc <;> simp [hlc]
        rw [step_command hr hb (decode_encode .close), State.exec_close hs hopen] at hstep
        cases hstep
        rfl
      · rw [step_command hr hb (decode_encode .configure)] at hstep
        rcases State.exec_configure_cases hs (.inr (.inr hd)) with ⟨-, he⟩ | ⟨-, hf', -⟩ | ⟨-, -, he⟩
        · cases hstep.symm.trans he
          rfl
        · cases hf.symm.trans hf'
        · cases hstep.symm.trans he
          rfl

end Sys2Proof.Machine

/-! ### A delayed loopback (70_reset_and_hazards.md R327) -/

namespace Sys2Proof.Machine

open Sys2Proof

/-- Up to the end of the transfer of the request in `XFER`, MISO shows what MOSI showed `δ` ticks before. -/
def State.EchoesAfter (s : State) (δ : Nat) : Prop :=
  ∀ k, k + δ < s.reqPollTick + 4 →
    (s.after (k + δ)).ext.getLsbD s.pins.miso.toNat = (s.after k).pinLevels.getLsbD s.pins.mosi.toNat

/-- A block that accepts a TRANSFER has a half bit period of at least one tick (41_configure.md R125). -/
theorem State.Inv.halfBit_pos {s : State} (h : s.Inv) (hst : s.startsTransfer = true) : 1 ≤ s.halfBit := by
  simp only [State.startsTransfer, Bool.and_eq_true] at hst
  obtain ⟨⟨-, hacc⟩, -⟩ := hst
  exact (h.ready (by simpa [acceptedIn] using ((s.accepts_iff _).1 hacc).2)).positive

section Delay

variable {s : State} (h : s.Inv) (hst : s.startsTransfer = true)
  (hq : Throughout State.quiet (s.reqPollTick + 4) s = true) {δ : Nat} (hecho : s.EchoesAfter δ)
  {j i : Nat} (hj : j < s.reqBytes) (hi : i < 8)

include h hst hq hecho hj hi

/-- A bit of the answer is pattern bit `m` if the tick `δ` before its sample lies in the window of that pattern bit. -/
theorem State.Inv.answer_bit_of_echo {t m : Nat} (ht : t + δ = s.bitTick (8 * j + i)) (hm : m ≤ 8 * j + i)
    (hlo : (2 * m + s.mode.phase) * s.halfBit ≤ t) (hhi : t < (2 * m + 2 + s.mode.phase) * s.halfBit) :
    ((s.after (4 + s.reqPollTick)).rxByte j).getLsbD (if s.xfer.lsbRx then i else 7 - i) = s.patternBit m := by
  have hk : 8 * j + i < s.reqBits := by
    have hbits : s.reqBits = 8 * s.reqBytes + s.reqErrClk := rfl
    omega
  have hlt := (h.transferAt hst hq le_rfl).bitTick_lt_reqPollTick hk
  have hphase : s.mode.phase ≤ 1 := Bool.toNat_le _
  have hrun : s.bitTick (8 * j + i) < runLength s.reqBits s.halfBit :=
    (mul_lt_runLength_iff _ _ (h.halfBit_pos hst)).2 (by omega)
  have hmiso := hecho (t + 2) (by omega)
  rw [show t + 2 + δ = s.bitTick (8 * j + i) + 2 by omega] at hmiso
  calc _ = (s.atTick (s.bitTick (8 * j + i))).ext.getLsbD s.pins.miso.toNat := h.answer_bit hst hq hj hi
    _ = (s.atTick t).pinLevels.getLsbD s.pins.mosi.toNat := hmiso
    _ = s.patternBit m := (h.transferAt hst hq (by omega)).mosi_level (by omega) (by omega) (.inr hlo) hhi

/-- A delay of `q` bit periods, up to half a period less or more, slips the answer by `q` bits: a bit period is `2*D`
ticks, and the sample stands in the middle of its window. -/
theorem State.Inv.answer_bit_of_slip {m q : Nat} (hm : m + q = 8 * j + i) (hlo : 2 * q * s.halfBit < δ + s.halfBit)
    (hhi : δ ≤ (2 * q + 1) * s.halfBit) :
    ((s.after (4 + s.reqPollTick)).rxByte j).getLsbD (if s.xfer.lsbRx then i else 7 - i) = s.patternBit m := by
  have hsample : s.bitTick (8 * j + i) = (2 * m + s.mode.phase) * s.halfBit + (2 * q + 1) * s.halfBit := by
    rw [← hm, State.bitTick]
    ring
  have hend : (2 * m + 2 + s.mode.phase) * s.halfBit = (2 * m + s.mode.phase) * s.halfBit + 2 * s.halfBit := by ring
  have hhalf : (2 * q + 1) * s.halfBit = 2 * q * s.halfBit + s.halfBit := by ring
  exact h.answer_bit_of_echo hst hq hecho hj hi (t := s.bitTick (8 * j + i) - δ) (by omega) (by omega) (by omega)
    (by omega)

end Delay

/-- Settles O49: a delay of up to `D` slips no bit, one of `D` to `2*D` slips one (`State.Inv.answer_bit_of_slip`). -/
theorem delayTolerance : Obligations.DelayTolerance := by
  intro s δ h hst hq hecho
  refine ⟨fun hδ hsame j hj => BitVec.eq_of_getLsbD_eq fun i hi => ?_, fun hlo hhi j i hj hi hk => ?_⟩
  · have hD := h.halfBit_pos hst
    have hbit : ∀ i, i < 8 → ((s.after (4 + s.reqPollTick)).rxByte j).getLsbD (if s.xfer.lsbRx then i else 7 - i) =
        (s.txByte j).getLsbD (if s.xfer.lsbTx then i else 7 - i) := fun i hi => by
      rw [← s.patternBit_payload hj hi]
      exact h.answer_bit_of_slip hst hq hecho hj hi (q := 0) rfl (by omega) (by omega)
    rw [getLsbD_eq_of_bit_orders hbit hi, if_pos hsame]
  · exact h.answer_bit_of_slip hst hq hecho hj hi (q := 1) (by omega) (by omega) (by omega)

end Sys2Proof.Machine

/-! ### The reset tick (70_reset_and_hazards.md R310) -/

namespace Sys2Proof.Machine

open Sys2Proof

/-- After a reset tick the digital I/O is in its reset state. -/
theorem State.released_resetTick (s : State) : s.resetTick.Released := ⟨rfl, rfl⟩

/-- In a tick with a read the bus carries the value of the present state (20_memory.md R51). -/
theorem State.hRdata_of_read {s : State} {a : Addr} (hb : s.busOp = .rd a) : s.hRdata = some (s.busRead a) := by
  rw [State.hRdata, hb]

/-- Settles O56: reset comes before the host's operation (`step_reset`), and `State.resetTick` takes everything but the
parameters, the inputs and the read from the reset values. -/
theorem resetTick : Obligations.ResetTick := fun s hr =>
  ⟨s.resetTick, step_reset hr, rfl, rfl, rfl, s.released_resetTick.dioOe rfl, rfl, fun _ => State.hRdata_of_read⟩

end Sys2Proof.Machine
